-- ==== Sys2Proof/Word.lean ====
section
/-!
DEFINITION. The words of the ES416: bytes, siding-line addresses, and the four small families of like things
the manual counts in (six analog inputs, twelve discrete inputs, three arm axes, three pools).
Quantities the manual adds, compares and clamps (pressures, flows, counts, timers) are `Nat` or `Int`; only what
travels as bits (converter counts, straps, line fields, image bytes) is a bit vector.
-/

namespace Sys2Proof

/-- One byte of a frame payload, of the configuration image or of TAGIN. -/
abbrev Byte := BitVec 8

/-- A two-byte value, sent or stored most significant byte first (00_scope, 5.6). -/
abbrev Half := BitVec 16

/-- A source address of the siding line, five bits (chapter 6, section 6.2). -/
abbrev Address := BitVec 5

/-- One thing per analog input, AIN1 to AIN6 (chapter 1, section 1.2). -/
structure Six (α : Type) where
  pCar : α
  pLiq : α
  tLiq : α
  x : α
  y : α
  z : α
deriving DecidableEq, Repr

/-- One thing per discrete input, FDI1 to FDI8 then PNL1 to PNL4 (chapter 1, section 1.5). -/
structure Twelve (α : Type) where
  groundOk : α
  liquidArm : α
  vapourArm : α
  gasAlarm : α
  lvOpen : α
  lvClosed : α
  svClosed : α
  rvClosed : α
  start : α
  stop : α
  reset : α
  esd : α
deriving DecidableEq, Repr

/-- One thing per arm axis (chapter 3). -/
structure Axes (α : Type) where
  x : α
  y : α
  z : α
deriving DecidableEq, Repr

/-- The three shared pools (chapter 8, section 8.1), in the order R133 computes them. -/
inductive Pool where
  | supply
  | ret
  | header
deriving DecidableEq, Repr

/-- One thing per pool. -/
structure Pools (α : Type) where
  supply : α
  ret : α
  header : α
deriving DecidableEq, Repr

/-- The thing of one pool. -/
def Pools.get {α : Type} (p : Pools α) : Pool → α
  | .supply => p.supply
  | .ret => p.ret
  | .header => p.header

/-- The same thing for every pool, by the pool's name. -/
def Pools.of {α : Type} (f : Pool → α) : Pools α := ⟨f .supply, f .ret, f .header⟩

/-- Two values, most significant byte first, as one two-byte number. -/
def bytesOfNat16 (n : Nat) : List Byte := [BitVec.ofNat 8 (n / 256), BitVec.ofNat 8 n]

/-- A number as four bytes, most significant first. -/
def bytesOfNat32 (n : Nat) : List Byte :=
  [BitVec.ofNat 8 (n / 16777216), BitVec.ofNat 8 (n / 65536), BitVec.ofNat 8 (n / 256), BitVec.ofNat 8 n]

end Sys2Proof
end

