-- ==== Sys2Proof/Syntax.lean ====
section
/-!
DEFINITION. The commands of the ES416: one constructor of `Instr` per row of spec/opcode_table.json. A command is
one event taken whole (95_what_each_step_holds): a reset, a sample, an expiry, a step of the siding line, a frame
handed over. Its operands are what the event brings from outside: pin levels, converter counts, a character, the
straps, the 192 bytes read, a frame's fields. A sample event also carries the order in which the part takes the
works and reports that fall together in it, which the manual leaves open
(DESIGN CHOICE, assumption 1).
-/

namespace Sys2Proof

/-- The two meters, PLSL and PLSV (R6). -/
inductive Meter where
  | liquid
  | vapour
deriving DecidableEq, Repr

/-- The three supervised valves (chapter 5); BV has no switch and no travel timer. -/
inductive Valve where
  | lv
  | sv
  | rv
deriving DecidableEq, Repr

/-- The four bytes of a read attempt that the memory must acknowledge (R182, steps (1) and (2)). -/
inductive PortByte where
  | selectWrite
  | addressHigh
  | addressLow
  | selectRead
deriving DecidableEq, Repr

/-- Where in the frame a send error was read back (R105). -/
inductive SendErrorPlace where
  /-- the start bit, read recessive: no frame stands on the line -/
  | start
  /-- a dominant kind or source bit, read recessive -/
  | header
  /-- a bit of the length, payload or check -/
  | body
  /-- the ack delimiter or the end field, read dominant: the ack slot is past -/
  | trailer
deriving DecidableEq, Repr

/-- The causes of chapter 9 (section 9.1). `unknown` stands in remote trip list entries only. -/
inductive Cause where
  | esd
  | gas
  | brk
  | drift
  | excess
  | valve
  | sensor
  | ground
  | uncouple
  | conflict
  | unknown
deriving DecidableEq, Repr

/-- The works the blocks do at one sample event, after the input unit has produced its values (R1). -/
inductive SampleWork where
  /-- the input unit reports SENSOR (R5) -/
  | sensor
  /-- the sequence controller takes the panel presses and the long press (R21) -/
  | panel
  /-- the sequence controller reads arms and ground (R36) -/
  | supervision
  /-- the sequence controller finds both arms uncoupled (R31, R38) -/
  | arms
  /-- the sequence controller compares P_car with P_res (R29) -/
  | residual
  /-- the check unit (R47, R48, R50) -/
  | check
  /-- the detector unit (R59) -/
  | detectors
  /-- the valve driver (R82) -/
  | valves
  /-- the share unit (R133) -/
  | share
  /-- the trip unit reads ESD and gas alarm (R155) -/
  | trips
  /-- the ticket unit meters (R170, R172) -/
  | tickets
deriving DecidableEq, Repr

/-- A result that one block hands to another within a sample event, and that may be taken before or after other
results of the same event (R79, R94, R154). -/
inductive SampleReport where
  /-- a cause reported to the trip unit -/
  | cause (c : Cause)
  /-- a liquid-out confirmation of a confirm wait of 0 s (R62, R64) -/
  | confirm
  /-- a throttle step of a flashing episode (R73) -/
  | throttle
  /-- the flashing hold request (R73) -/
  | hold
  /-- "LV confirmed closed" (R94) -/
  | lvClosed
  /-- the all-closed indication read in close step SHUTTING (R92) -/
  | allClosed
deriving DecidableEq, Repr

/-- One turn of a sample event: a block does its work, or a report becomes takeable. -/
inductive SampleTurn where
  | work (w : SampleWork)
  | take (r : SampleReport)
deriving DecidableEq, Repr

/-- The ten payload bytes of an ANNOUNCE (chapter 6, section 6.2), field by field. -/
structure AnnouncePayload where
  phaseCode : Byte
  flags : Byte
  supply : Half
  ret : Half
  header : Half
  signature : Half
deriving DecidableEq, Repr

/-- What a frame command brings with the check field that was read behind it (R99). -/
structure Checked (α : Type) where
  content : α
  check : Half
deriving DecidableEq, Repr

/-- A frame as the station read it off the line: header fields, payload and check field (R98, section 6.2). The length
field is the payload's length. -/
structure Frame where
  kind : BitVec 3
  source : Address
  payload : List Byte
  check : Half
deriving DecidableEq, Repr

/-- The commands, one constructor per row of spec/opcode_table.json, in the table's order. -/
inductive Instr where
  /-- POR (R181): a power-on reset begins. -/
  | por
  /-- RSTN (R180): an external reset begins. -/
  | rstn
  /-- RESET_END (R182): the reset ends, with the strap levels ADDR3 to ADDR0. -/
  | resetEnd (straps : BitVec 4)
  /-- MEMORY_ATTEMPT_FAILED (R182): this byte of the attempt was not acknowledged. -/
  | memoryAttemptFailed (byte : PortByte)
  /-- MEMORY_RETRY_PAUSE_EXPIRY (R182): 10 ms have passed since the failed attempt's stop condition. -/
  | memoryRetryPauseExpiry
  /-- IMAGE_READ_COMPLETE (R184): the read completed with these bytes, word address 0 first. -/
  | imageReadComplete (image : Vector Byte 192)
  /-- SAMPLE_EVENT (R1): the converter counts, the contact levels (`true` is a closed contact), and the turns the
  part takes first; the turns not named follow in the order of `allTurns`. -/
  | sampleEvent (counts : Six (BitVec 12)) (levels : Twelve Bool) (order : List SampleTurn)
  /-- PULSE_EDGE (R6): a rising edge of one meter. -/
  | pulseEdge (meter : Meter)
  /-- TAGIN_IDLE_WAIT_DONE (R12): TAGIN has been idle for 20 ms. -/
  | taginIdleWaitDone
  /-- CHARACTER_ARRIVAL (R13): a character and its framing result. -/
  | characterArrival (code : Byte) (framingGood : Bool)
  /-- DRAIN_TIMER_EXPIRY (R28). -/
  | drainTimerExpiry
  /-- RECOVERY_TIMER_EXPIRY (R29). -/
  | recoveryTimerExpiry
  /-- BLEED_TIMER_EXPIRY (R31). -/
  | bleedTimerExpiry
  /-- TEMPORARY_CODE_TIMER_EXPIRY (R43). -/
  | temporaryCodeTimerExpiry
  /-- CHECK_TIMER_EXPIRY (R51). -/
  | checkTimerExpiry
  /-- CONFIRM_TIMER_EXPIRY (R63). -/
  | confirmTimerExpiry
  /-- CLEAR_TIMER_EXPIRY (R74). -/
  | clearTimerExpiry
  /-- TRAVEL_TIMER_EXPIRY (R90): of one supervised valve. -/
  | travelTimerExpiry (valve : Valve)
  /-- STARVATION_TIMER_EXPIRY (R145). -/
  | starvationTimerExpiry
  /-- ANNOUNCE_TIMER_EXPIRY (R112). -/
  | announceTimerExpiry
  /-- SPACING_TIME_REACHED (R114). -/
  | spacingTimeReached
  /-- UPTIME_SECOND (R168). -/
  | uptimeSecond
  /-- STALE_THRESHOLD_REACHED (R125): by the record of this address. -/
  | staleThresholdReached (address : Address)
  /-- LAPSE_THRESHOLD_REACHED (R126): by the record of this address. -/
  | lapseThresholdReached (address : Address)
  /-- FORGET_TIME_REACHED (R127): by the record of this address. -/
  | forgetTimeReached (address : Address)
  /-- CONTENTION_START (R103): a start bit on an idle line, the station's own where it has a frame to send, and otherwise
  another device's (DESIGN CHOICE, assumption 8). -/
  | contentionStart
  /-- ARBITRATION_LOSS (R104). -/
  | arbitrationLoss
  /-- SEND_ERROR (R105): at this place of the frame. -/
  | sendError (place : SendErrorPlace)
  /-- STUCK_LINE (R107). -/
  | stuckLine
  /-- SEND_COMPLETED (R106): with the ack slot read dominant or not. -/
  | sendCompleted (acked : Bool)
  /-- FAULT_EXIT (R107). -/
  | faultExit
  /-- FRAME_BAD_CHECK (R100): a frame whose check field is not the check of its fields, whatever they are. -/
  | frameBadCheck
  /-- FRAME_DISCARDED (R101): a good frame of an invalid source, kind or length. -/
  | frameDiscarded (kind : BitVec 3) (source : Address) (payload : Checked (List Byte))
  /-- CONFLICT (R108): a good frame of the station's own source, whatever its kind and payload. -/
  | conflict
  /-- TRIP_FRAME (R159): source, the two payload bytes, and the check field. -/
  | tripFrame (source : Address) (causeSet : Checked Half)
  /-- CLEAR_FRAME (R160): source and check field. -/
  | clearFrame (source : Checked Address)
  /-- ANNOUNCE_FRAME (R121): source, payload and check field. -/
  | announceFrame (source : Address) (payload : Checked AnnouncePayload)
  /-- INQUIRY (R176): source, target address byte, ticket number and check field. -/
  | inquiry (source : Address) (target : Byte) (number : Checked Half)
  /-- COLLECT (R179): source, target address byte, ticket number and check field. -/
  | collect (source : Address) (target : Byte) (number : Checked Half)
  /-- REPORT_FRAME (R122): a peer's report part, and its check field. -/
  | reportFrame (source : Address) (payload : Checked (List Byte))
  /-- LINE_IDLE (R98): line idle becomes yes. -/
  | lineIdle
  /-- FRAME_END_FIELD_ERROR (R100): a frame with a good check and a dominant bit in its ack delimiter or end field. -/
  | frameEndFieldError
deriving DecidableEq, Repr

end Sys2Proof
end

