-- ==== Sys2Proof/Config.lean ====
section
/-!
DEFINITION. What is fixed while the part runs: the configuration in use (chapter 11, section 11.3), field by field as
the image lays it out. No value of this machine is left to an implementation as a constant: where the manual leaves
an order open, the command that meets it carries the order (DESIGN CHOICE, assumption 1).
-/

namespace Sys2Proof

/-- One sensor group of the image (bytes 20 to 49): engineering range and hold limit. -/
structure SensorGroup where
  lo : Int
  hi : Int
  holdLimit : Nat
deriving DecidableEq, Repr

/-- The configuration in use: every field of the image's layout table, in the image's units. -/
structure Settings where
  /-- C_SUPPLY, C_RETURN, C_HEADER, kg/h -/
  capacity : Pools Nat
  /-- A_SUPPLY, A_RETURN, A_HEADER, kg/h -/
  allowance : Pools Nat
  /-- T_a in 100 ms units -/
  announcePeriod : Nat
  settleDepth : Nat
  staleCount : Nat
  lapseCount : Nat
  /-- seconds -/
  forgetTime : Nat
  islandCount : Nat
  /-- T_s in ms -/
  samplePeriod : Nat
  sensors : Six SensorGroup
  liquidGrams : Nat
  vapourGrams : Nat
  /-- seconds -/
  drainTime : Nat
  /-- seconds -/
  recoveryLimit : Nat
  /-- seconds -/
  bleedTime : Nat
  /-- V_push -/
  vPush : Nat
  /-- L_push -/
  lPush : Nat
  /-- per cent -/
  throttleStep : Nat
  /-- V_rec -/
  vRec : Nat
  /-- P_res, kPa -/
  pRes : Nat
  /-- P_band, kPa -/
  pBand : Nat
  /-- 0 no, 1 yes -/
  identityRequired : Nat
  driftThreshold : Axes Nat
  /-- seconds -/
  holdTime : Nat
  leakTolerance : Nat
  emptyFlow : Nat
  emptyCount : Nat
  vapourBand : Nat
  /-- 100 ms units -/
  confirmWait : Nat
  excessLimit : Nat
  excessCount : Nat
  surgeDrop : Nat
  breakPressure : Nat
  surgeWindow : Nat
  /-- P_0 to P_10, kPa -/
  saturation : List Nat
  flashMargin : Nat
  flashCount : Nat
  maxThrottle : Nat
  /-- seconds -/
  clearTime : Nat
  driftCount : Nat
  svRating : Nat
  rvRating : Nat
  trimStep : Nat
  slewLimit : Nat
  /-- 100 ms units, as the other travel times -/
  lvTravel : Nat
  svTravel : Nat
  rvTravel : Nat
  demandStep : Nat
  spotRating : Pools Nat
  minGrant : Pools Nat
  /-- 100 ms units -/
  starveLimit : Nat
deriving DecidableEq, Repr

/-- The settings a reader finds where no configuration is in use: every field 0. In "OFFLINE" no block reads its
settings (R188), so no rule depends on them (DEDUCED, assumption 15). -/
def Settings.none : Settings where
  capacity := ⟨0, 0, 0⟩
  allowance := ⟨0, 0, 0⟩
  announcePeriod := 0
  settleDepth := 0
  staleCount := 0
  lapseCount := 0
  forgetTime := 0
  islandCount := 0
  samplePeriod := 0
  sensors := ⟨⟨0, 0, 0⟩, ⟨0, 0, 0⟩, ⟨0, 0, 0⟩, ⟨0, 0, 0⟩, ⟨0, 0, 0⟩, ⟨0, 0, 0⟩⟩
  liquidGrams := 0
  vapourGrams := 0
  drainTime := 0
  recoveryLimit := 0
  bleedTime := 0
  vPush := 0
  lPush := 0
  throttleStep := 0
  vRec := 0
  pRes := 0
  pBand := 0
  identityRequired := 0
  driftThreshold := ⟨0, 0, 0⟩
  holdTime := 0
  leakTolerance := 0
  emptyFlow := 0
  emptyCount := 0
  vapourBand := 0
  confirmWait := 0
  excessLimit := 0
  excessCount := 0
  surgeDrop := 0
  breakPressure := 0
  surgeWindow := 0
  saturation := []
  flashMargin := 0
  flashCount := 0
  maxThrottle := 0
  clearTime := 0
  driftCount := 0
  svRating := 0
  rvRating := 0
  trimStep := 0
  slewLimit := 0
  lvTravel := 0
  svTravel := 0
  rvTravel := 0
  demandStep := 0
  spotRating := ⟨0, 0, 0⟩
  minGrant := ⟨0, 0, 0⟩
  starveLimit := 0

end Sys2Proof
end

