-- ==== Sys2Proof/Machine/State.lean ====
section
/-!
DEFINITION. The state of the ES416 as plain data: one structure per block of the block diagram (00_scope, section 2),
the reset in progress, and the queue of commands that wait. Beside each structure stands the update of that block in
the whole state; every change of state goes through one of these.
-/

namespace Sys2Proof.Machine

open Sys2Proof

/-- The block has no fault: no rule of the manual stops the part. The type has no constructor, so no command and no
step can answer a fault (safe: nothing is hidden behind one). -/
inductive Fault where
deriving DecidableEq, Repr

/-- Why a command is refused. -/
inductive Refusal where
  /-- Raised by `exec` for a command that has no meaning yet. Safe: the machine stops instead of inventing an effect.
  No arm of `exec` answers it. -/
  | notModelled (mnemonic : String)
deriving DecidableEq, Repr

/-- A count of whole time units since the event that started it, or idle (`none`), as R17 and the state tables say. -/
abbrev Timer := Option Nat

/-! ## Sequence controller (chapter 2) -/

/-- The phases (section 2.1). -/
inductive Phase where
  | offline
  | idle
  | check
  | push
  | drain
  | recover
  | close
  | hold
  | tripped
deriving DecidableEq, Repr

/-- The phases that a START in "HOLD" resumes (section 2.1). -/
inductive HeldPhase where
  | push
  | drain
  | recover
  | close
deriving DecidableEq, Repr

inductive HoldReason where
  | operator
  | starved
  | flashing
  | trip
deriving DecidableEq, Repr

inductive DrainStep where
  | draining
  | shutting
deriving DecidableEq, Repr

inductive CloseStep where
  | shutting
  | bleeding
  | releasing
deriving DecidableEq, Repr

/-- The two-character codes of the display (section 2.13), each constructor spelled as the display shows it. -/
inductive Code where
  | of | id | ck | pu | dr | rc | cl | ho | tr
  | na | ng | nt | ns | nf | nc | ni
  | fa | fb | fl
  | e1 | e2 | e3 | e4 | e5 | e6 | e7 | e8 | e9 | ea | eu
  | lm | lc | lr | lt
deriving DecidableEq, Repr

/-- Sequence controller state, section 2.1. -/
structure Sequence where
  phase : Phase
  held : Option HeldPhase
  reason : Option HoldReason
  stopped : Bool
  drainStep : DrainStep
  drainTimer : Timer
  residual : Nat
  recoveryTimer : Timer
  closeStep : CloseStep
  bleedTimer : Timer
  tempCode : Option Code
  tempTimer : Timer
deriving DecidableEq, Repr

/-- R45. -/
def Sequence.reset : Sequence where
  phase := .offline
  held := none
  reason := none
  stopped := false
  drainStep := .draining
  drainTimer := none
  residual := 0
  recoveryTimer := none
  closeStep := .shutting
  bleedTimer := none
  tempCode := none
  tempTimer := none

/-! ## Input unit (chapter 1) -/

inductive SensorStatus where
  | good
  | hold
  | fail
deriving DecidableEq, Repr

/-- A sensor record, section 1.3. -/
structure Sensor where
  status : SensorStatus
  value : Int
  lastGood : Int
  holdCount : Nat
deriving DecidableEq, Repr

inductive Stable where
  | unsettled
  | inactive
  | active
deriving DecidableEq, Repr

/-- A debouncer, section 1.5. -/
structure Debouncer where
  stable : Stable
  lastRaw : Option Bool
  run : Nat
deriving DecidableEq, Repr

/-- The TAGIN receiver (R12, R16). -/
inductive Receiver where
  | off
  | waiting
  | accepting
deriving DecidableEq, Repr

/-- Input unit state, chapter 1. `resetHeld` is implied by R11: the present holding of RESET began with a press
(DEDUCED, assumption 8). -/
structure InputUnit where
  sensors : Six Sensor
  liquidPulses : Nat
  vapourPulses : Nat
  liquidSample : Nat
  vapourSample : Nat
  /-- the last eight liquid sample counts, oldest first -/
  window : List Nat
  /-- F in kg/h -/
  flow : Nat
  debounce : Twelve Debouncer
  longPress : Nat
  resetHeld : Bool
  receiver : Receiver
  buffer : List Byte
  discard : Bool
  /-- the car identity holder; `[]` is empty -/
  identity : List Byte
deriving DecidableEq, Repr

def Sensor.reset : Sensor := ⟨.good, 0, 0, 0⟩

def Debouncer.reset : Debouncer := ⟨.unsettled, none, 0⟩

/-- R16. -/
def InputUnit.reset : InputUnit where
  sensors := ⟨.reset, .reset, .reset, .reset, .reset, .reset⟩
  liquidPulses := 0
  vapourPulses := 0
  liquidSample := 0
  vapourSample := 0
  window := [0, 0, 0, 0, 0, 0, 0, 0]
  flow := 0
  debounce := ⟨.reset, .reset, .reset, .reset, .reset, .reset, .reset, .reset, .reset, .reset, .reset, .reset⟩
  longPress := 0
  resetHeld := false
  receiver := .off
  buffer := []
  discard := false
  identity := []

/-! ## Check unit (chapter 3) -/

inductive CheckStep where
  | inactive
  | baseline
  | holdTest
deriving DecidableEq, Repr

/-- The start pressures of the hold test, kPa. -/
structure Pressures where
  pCar : Int
  pLiq : Int
deriving DecidableEq, Repr

/-- Check unit state, section 3.1. -/
structure CheckUnit where
  step : CheckStep
  count : Nat
  sums : Axes Int
  mins : Axes (Option Int)
  maxs : Axes (Option Int)
  start : Option Pressures
  timer : Timer
  baseline : Option (Axes Int)
deriving DecidableEq, Repr

/-- R58. -/
def CheckUnit.reset : CheckUnit where
  step := .inactive
  count := 0
  sums := ⟨0, 0, 0⟩
  mins := ⟨none, none, none⟩
  maxs := ⟨none, none, none⟩
  start := none
  timer := none
  baseline := none

/-! ## Detector unit (chapter 4) -/

inductive LiquidStage where
  | counting
  | waiting
deriving DecidableEq, Repr

inductive SurgeState where
  | armed
  | window
deriving DecidableEq, Repr

/-- Detector unit state, section 4.1. -/
structure DetectorUnit where
  stage : LiquidStage
  lowCount : Nat
  confirmTimer : Timer
  excessCount : Nat
  surge : SurgeState
  previousPLiq : Option Int
  windowCount : Nat
  flashCount : Nat
  throttle : Nat
  clearTimer : Timer
  driftCount : Nat
deriving DecidableEq, Repr

/-- R80. -/
def DetectorUnit.reset : DetectorUnit where
  stage := .counting
  lowCount := 0
  confirmTimer := none
  excessCount := 0
  surge := .armed
  previousPLiq := none
  windowCount := 0
  flashCount := 0
  throttle := 0
  clearTimer := none
  driftCount := 0

/-! ## Valve driver (chapter 5) -/

inductive Drive where
  | opened
  | closed
deriving DecidableEq, Repr

inductive Supervision where
  | closing
  | closed
  | closeOverdue
  | opening
  | opened
  | openOverdue
deriving DecidableEq, Repr

/-- Supervision state and travel timer of one valve, section 5.1. -/
structure Channel where
  state : Supervision
  timer : Timer
deriving DecidableEq, Repr

/-- Valve driver state, section 5.1. The all-closed indication is computed from it (`allClosed`). -/
structure ValveDriver where
  lvCommand : Drive
  bvCommand : Drive
  svTarget : Nat
  rvTarget : Nat
  svOpening : Nat
  rvOpening : Nat
  lv : Channel
  sv : Channel
  rv : Channel
  trim : Nat
deriving DecidableEq, Repr

/-- R95. -/
def ValveDriver.reset : ValveDriver where
  lvCommand := .closed
  bvCommand := .closed
  svTarget := 0
  rvTarget := 0
  svOpening := 0
  rvOpening := 0
  lv := ⟨.closing, none⟩
  sv := ⟨.closing, none⟩
  rv := ⟨.closing, none⟩
  trim := 0

/-! ## Line controller (chapter 6) -/

/-- Line states (R103). -/
inductive LineState where
  | off
  | listen
  | contend
  | send
  | ackchk
  | silent
  | fault
deriving DecidableEq, Repr

/-- How the station follows the line (R98). Line idle is yes in `idle` and no in the others; the others are what R98
says the next line idle waits for. -/
inductive Track where
  /-- follows no frame: line idle at the 168th consecutive recessive bit -/
  | lost
  /-- line idle yes -/
  | idle
  /-- inside a frame, as its sender or its receiver -/
  | inFrame
  /-- inside a frame past its ack slot, a dominant bit read in its ack delimiter or end field (R105, 3)) -/
  | spoilt
  /-- after a frame's end field: line idle at the eleventh consecutive recessive bit -/
  | afterFrame
deriving DecidableEq, Repr

/-- A frame of the outgoing list; of a REPORT series, one part by its index 1 to 8. -/
inductive OutFrame where
  | trip
  | clear
  | announce
  | report (part : Nat)
deriving DecidableEq, Repr

/-- Phase code and demands of a completed ANNOUNCE (last announced). -/
structure Announced where
  phaseCode : Nat
  demands : Pools Nat
deriving DecidableEq, Repr

/-- The frame in flight, with the payload and check it took at its contention (R99, R102). `removed` marks a frame that
R110 took from the list during its attempt (DEDUCED, assumption 11). `carried` is what an ANNOUNCE carries, for R112 and R115. -/
structure InFlight where
  frame : OutFrame
  payload : List Byte
  check : BitVec 16
  carried : Announced
  removed : Bool
deriving DecidableEq, Repr

/-- Line controller state, section 6.1. -/
structure LineController where
  state : LineState
  track : Track
  outgoing : List OutFrame
  inFlight : Option InFlight
  sendErrors : Nat
  unacked : Nat
  lastAnnounced : Option Announced
  announceTimer : Timer
  spacingTimer : Timer
  promptRequest : Bool
  /-- whole 100 ms units, 0 to 10 -/
  recessiveRun : Nat
  /-- whole ms, 0 to 5 -/
  dominantRun : Nat
  /-- what the station drove in the ack slot of the last frame it received: dominant (`true`) or not (R100, R103;
  DEDUCED, assumption 8) -/
  ackDriven : Bool
deriving DecidableEq, Repr

/-- R117. -/
def LineController.reset : LineController where
  state := .off
  track := .lost
  outgoing := []
  inFlight := none
  sendErrors := 0
  unacked := 0
  lastAnnounced := none
  announceTimer := none
  spacingTimer := none
  promptRequest := false
  recessiveRun := 0
  dominantRun := 0
  ackDriven := false

/-! ## Peer table (chapter 7) -/

inductive PeerClass where
  | station
  | observer
deriving DecidableEq, Repr

inductive Liveness where
  | current
  | stale
  | lapsed
deriving DecidableEq, Repr

/-- Signature state; `absent` in OBSERVER records. -/
inductive SignatureState where
  | unheard
  | match
  | mismatch
  | absent
deriving DecidableEq, Repr

/-- A peer record, section 7.1. -/
structure Peer where
  address : Nat
  cls : PeerClass
  liveness : Liveness
  lastPhase : Option Nat
  demands : Pools Nat
  islandFlag : Bool
  signature : SignatureState
  age : Nat
  lapsedTime : Nat
deriving DecidableEq, Repr

/-! ## Share unit (chapter 8) -/

inductive IslandState where
  | joined
  | island
deriving DecidableEq, Repr

/-- Share unit state, section 8.1. -/
structure ShareUnit where
  /-- settle rings, oldest value first -/
  rings : Pools (List Nat)
  share : Pools Nat
  grant : Pools Nat
  island : IslandState
  faultMarker : Bool
  starvation : Timer
deriving DecidableEq, Repr

/-- R152. The rings have no slot until a settle depth is loaded; the release gives them S slots of 0. -/
def ShareUnit.reset : ShareUnit where
  rings := ⟨[], [], []⟩
  share := ⟨0, 0, 0⟩
  grant := ⟨0, 0, 0⟩
  island := .joined
  faultMarker := false
  starvation := none

/-! ## Trip unit (chapter 9) -/

/-- A set of the siding-scope causes, as the four bits a TRIP carries. -/
structure SidingSet where
  esd : Bool
  gas : Bool
  brk : Bool
  drift : Bool
deriving DecidableEq, Repr

/-- The cause set of a trip list entry: one or more known causes, or UNKNOWN alone. -/
inductive EntryCauses where
  | known (set : SidingSet)
  | unknown
deriving DecidableEq, Repr

/-- A trip list entry; its arrival order is its place in the list. -/
structure TripEntry where
  originator : Nat
  causes : EntryCauses
deriving DecidableEq, Repr

/-- Trip unit state, section 9.1. The tripped indication is computed from it (`tripped`). -/
structure TripUnit where
  /-- latched causes, in the order of their numbers -/
  latched : List Cause
  outstanding : Bool
  list : List TripEntry
deriving DecidableEq, Repr

/-- R167. -/
def TripUnit.reset : TripUnit := ⟨[], false, []⟩

/-! ## Ticket unit (chapter 10) -/

inductive NoteKind where
  | empty
  | throttle
  | restore
  | starved
  | hold
  | resume
  | trip
  | island
  | rejoin
  | meter
deriving DecidableEq, Repr

structure Note where
  kind : NoteKind
  stamp : Nat
  value : Nat
deriving DecidableEq, Repr

inductive EndReason where
  | complete
  | stopped
  | tripped
  | reset
deriving DecidableEq, Repr

/-- A ticket record, section 10.1; `[]` as identity is absent. -/
structure Ticket where
  number : Nat
  station : Nat
  identity : List Byte
  openTime : Nat
  closeTime : Option Nat
  delivered : Nat
  recovered : Nat
  peak : Nat
  finalThrottle : Option Nat
  endReason : Option EndReason
  notes : List Note
  overflow : Bool
deriving DecidableEq, Repr

/-- A pending REPORT series: its ticket number and part count; part count 1 is a NONE series (R176). -/
structure Series where
  number : Nat
  parts : Nat
deriving DecidableEq, Repr

/-- Ticket unit state, section 10.1. -/
structure TicketUnit where
  current : Option Ticket
  store : List Ticket
  nextNumber : Nat
  uptime : Nat
  meterMarker : Bool
  series : Option Series
deriving DecidableEq, Repr

/-- R181, after POR. -/
def TicketUnit.reset : TicketUnit where
  current := none
  store := []
  nextNumber := 1
  uptime := 0
  meterMarker := false
  series := none

/-! ## Start-up loader (chapter 11) -/

inductive LoaderState where
  | reading
  | released
  | refused
deriving DecidableEq, Repr

/-- What the memory port is doing (R182). -/
inductive Port where
  | quiet
  | attempt
  | pause
deriving DecidableEq, Repr

/-- Loader state, section 11.1. -/
structure Loader where
  state : LoaderState
  attempts : Nat
  /-- "LM", "LC", "LR" or "LT" -/
  cause : Option Code
  ownAddress : Nat
  inUse : Option Settings
  signature : Option Nat
  port : Port
deriving DecidableEq, Repr

/-- Section 11.1. The own address has no value until the straps are sampled at the end of the reset; address 1 stands
there meanwhile, and nothing reads it (DESIGN CHOICE, assumption 2). -/
def Loader.reset : Loader where
  state := .reading
  attempts := 0
  cause := none
  ownAddress := 1
  inUse := none
  signature := none
  port := .quiet

/-! ## The whole part -/

/-- The reset that is in progress (R45, R168). -/
inductive ResetKind where
  | por
  | rstn
deriving DecidableEq, Repr

/-- The state of the part, and the commands that wait, first in, first out. -/
structure State where
  resetting : Option ResetKind
  loader : Loader
  input : InputUnit
  seq : Sequence
  check : CheckUnit
  det : DetectorUnit
  valve : ValveDriver
  line : LineController
  peers : List Peer
  share : ShareUnit
  trip : TripUnit
  ticket : TicketUnit
  pending : List Instr
deriving DecidableEq, Repr

/-- The part with a power-on reset in progress: every block at its value after POR, the queue empty. -/
def State.reset : State where
  resetting := some .por
  loader := .reset
  input := .reset
  seq := .reset
  check := .reset
  det := .reset
  valve := .reset
  line := .reset
  peers := []
  share := .reset
  trip := .reset
  ticket := .reset
  pending := []

/-! ## One update per block -/

def State.onLoader (f : Loader → Loader) (s : State) : State := { s with loader := f s.loader }

def State.onInput (f : InputUnit → InputUnit) (s : State) : State := { s with input := f s.input }

def State.onSeq (f : Sequence → Sequence) (s : State) : State := { s with seq := f s.seq }

def State.onCheck (f : CheckUnit → CheckUnit) (s : State) : State := { s with check := f s.check }

def State.onDet (f : DetectorUnit → DetectorUnit) (s : State) : State := { s with det := f s.det }

def State.onValve (f : ValveDriver → ValveDriver) (s : State) : State := { s with valve := f s.valve }

def State.onLine (f : LineController → LineController) (s : State) : State := { s with line := f s.line }

def State.onPeers (f : List Peer → List Peer) (s : State) : State := { s with peers := f s.peers }

def State.onShare (f : ShareUnit → ShareUnit) (s : State) : State := { s with share := f s.share }

def State.onTrip (f : TripUnit → TripUnit) (s : State) : State := { s with trip := f s.trip }

def State.onTicket (f : TicketUnit → TicketUnit) (s : State) : State := { s with ticket := f s.ticket }

end Sys2Proof.Machine
end

