-- ==== Sys2Proof/Machine/Operands.lean ====
section
/-!
DEFINITION. The operands of the commands and what the manual reads out of them: converter counts into bands and
values, characters into their classes, addresses into their classes, frame fields, image bytes, and the CRC that the
siding line and the image share.
-/

namespace Sys2Proof.Machine

open Sys2Proof

/-! ## Pointwise maps over the families -/

def sixMap {α β : Type} (f : α → β) (a : Six α) : Six β := ⟨f a.pCar, f a.pLiq, f a.tLiq, f a.x, f a.y, f a.z⟩

/-- Every analog input's own setting, record and count, combined. -/
def sixZip {α β γ δ : Type} (f : α → β → γ → δ) (a : Six α) (b : Six β) (c : Six γ) : Six δ :=
  ⟨f a.pCar b.pCar c.pCar, f a.pLiq b.pLiq c.pLiq, f a.tLiq b.tLiq c.tLiq, f a.x b.x c.x, f a.y b.y c.y, f a.z b.z c.z⟩

def sixAny {α : Type} (f : α → Bool) (a : Six α) : Bool :=
  f a.pCar || f a.pLiq || f a.tLiq || f a.x || f a.y || f a.z

def sixAll {α : Type} (f : α → Bool) (a : Six α) : Bool :=
  f a.pCar && f a.pLiq && f a.tLiq && f a.x && f a.y && f a.z

def twelveZip {α β γ : Type} (f : α → β → γ) (a : Twelve α) (b : Twelve β) : Twelve γ :=
  ⟨f a.groundOk b.groundOk, f a.liquidArm b.liquidArm, f a.vapourArm b.vapourArm, f a.gasAlarm b.gasAlarm,
   f a.lvOpen b.lvOpen, f a.lvClosed b.lvClosed, f a.svClosed b.svClosed, f a.rvClosed b.rvClosed,
   f a.start b.start, f a.stop b.stop, f a.reset b.reset, f a.esd b.esd⟩

def axesZip {α β γ : Type} (f : α → β → γ) (a : Axes α) (b : Axes β) : Axes γ := ⟨f a.x b.x, f a.y b.y, f a.z b.z⟩

def axesAny (a : Axes Bool) : Bool := a.x || a.y || a.z

def poolsZip {α β γ : Type} (f : α → β → γ) (a : Pools α) (b : Pools β) : Pools γ :=
  ⟨f a.supply b.supply, f a.ret b.ret, f a.header b.header⟩

/-! ## Analog counts (R2, R3) -/

/-- The bands of R2: a good sample with its converted value, or a faulted one. -/
inductive AnalogSample where
  | good (value : Int)
  | faulted
deriving DecidableEq, Repr

/-- R3: scaling in the in-range band. -/
def scaleCounts (g : SensorGroup) (counts : Nat) : Int :=
  g.lo + (((max 819 (min counts 4095) - 819 : Nat) : Int) * (g.hi - g.lo)).tdiv 3276

/-- R2: open loop to 736, under range to 818, in range to 4094, over range at 4095. -/
def classifyCounts (g : SensorGroup) (counts : Nat) : AnalogSample :=
  if counts ≤ 736 then .faulted
  else if counts ≤ 818 then .good g.lo
  else if counts ≤ 4094 then .good (scaleCounts g counts)
  else .faulted

/-! ## TAGIN characters (R13) -/

/-- Codes 20h to 7Eh. -/
def isPrintable (code : Byte) : Bool := decide (0x20 ≤ code.toNat) && decide (code.toNat ≤ 0x7E)

/-! ## Addresses and frame fields (00_scope, 5.7; R101) -/

/-- 1 to 16: a spot station. -/
def isStation (a : Nat) : Bool := decide (1 ≤ a) && decide (a ≤ 16)

/-- 24 to 30: an observer. -/
def isObserver (a : Nat) : Bool := decide (24 ≤ a) && decide (a ≤ 30)

/-- Sources other than 0, 17 to 23 and 31. -/
def validSource (a : Nat) : Bool := isStation a || isObserver a

/-- Whether a payload length is the length of its kind (section 6.2); kinds 6 and 7 have none. -/
def lengthOfKind (kind length : Nat) : Bool :=
  match kind with
  | 0 => length == 2
  | 1 => length == 0
  | 2 => length == 10
  | 3 => length == 3
  | 4 => decide (4 ≤ length) && decide (length ≤ 15)
  | 5 => length == 3
  | _ => false

/-- R101: the header fields of a good frame from another device that is discarded. -/
def isDiscarded (kind source length : Nat) : Bool :=
  !validSource source || decide (6 ≤ kind) || !lengthOfKind kind length

/-- A two-byte field as it travels (00_scope, 5.6). -/
def halfBytes (h : Half) : List Byte := bytesOfNat16 h.toNat

/-- The payload bytes of an ANNOUNCE (section 6.2). -/
def announcePayloadBytes (p : AnnouncePayload) : List Byte :=
  [p.phaseCode, p.flags] ++ halfBytes p.supply ++ halfBytes p.ret ++ halfBytes p.header ++ halfBytes p.signature

/-- The payload bytes of an INQUIRY or a COLLECT (section 6.2). -/
def requestBytes (target : Byte) (number : Half) : List Byte := target :: halfBytes number

/-- The cause set of a TRIP: bits 3 to 0 of its second byte are DRIFT, BREAK, GAS, ESD; the rest is ignored. -/
def sidingSetOfHalf (h : Half) : SidingSet := ⟨h.getLsbD 0, h.getLsbD 1, h.getLsbD 2, h.getLsbD 3⟩

def SidingSet.isEmpty (s : SidingSet) : Bool := !(s.esd || s.gas || s.brk || s.drift)

/-- R159: an empty carried set stands as UNKNOWN. -/
def entryCausesOf (set : SidingSet) : EntryCauses := if set.isEmpty then .unknown else .known set

/-- Bit 7 of the flags byte: trip outstanding. -/
def announceOutstanding (p : AnnouncePayload) : Bool := p.flags.getLsbD 7

/-- Bit 6 of the flags byte: island. -/
def announceIsland (p : AnnouncePayload) : Bool := p.flags.getLsbD 6

def announceDemands (p : AnnouncePayload) : Pools Nat := ⟨p.supply.toNat, p.ret.toNat, p.header.toNat⟩

/-! ## The CRC (R99, R184, R187) -/

/-- One bit into the register: polynomial x^16 + x^12 + x^5 + 1, most significant bit first. -/
def crcBit (reg : Nat) (bit : Bool) : Nat :=
  let shifted := (reg * 2) % 65536
  if Bool.xor (Nat.ble 32768 reg) bit then Nat.xor shifted 0x1021 else shifted

/-- The low `width` bits of a value, most significant first. -/
def bitsOfNat (width value : Nat) : List Bool :=
  match width with
  | 0 => []
  | w + 1 => value.testBit w :: bitsOfNat w value

def crcBits (reg : Nat) (bits : List Bool) : Nat := bits.foldl crcBit reg

/-- CRC over bytes, each most significant bit first, from all ones and without final inversion. -/
def crcBytes (bytes : List Byte) : Nat := bytes.foldl (fun reg b => crcBits reg (bitsOfNat 8 b.toNat)) 0xFFFF

/-- R99: the check over kind, source, length and payload, in the order they are sent. -/
def frameCheck (kind source : Nat) (payload : List Byte) : BitVec 16 :=
  BitVec.ofNat 16 (payload.foldl (fun reg b => crcBits reg (bitsOfNat 8 b.toNat))
    (crcBits 0xFFFF (bitsOfNat 3 kind ++ bitsOfNat 5 source ++ bitsOfNat 4 payload.length)))

/-- R99: the check of a received frame is good when its check field equals the check over the fields received. -/
def checkGood (f : Frame) : Bool := f.check == frameCheck f.kind.toNat f.source.toNat f.payload

/-- R100, R101: a frame with a good check that R101 discards, whoever but its sender receives it. -/
def discards (f : Frame) : Bool :=
  checkGood f && isDiscarded f.kind.toNat f.source.toNat f.payload.length

/-! ## Image bytes (section 11.3) -/

def byteAt (image : List Byte) (i : Nat) : Nat := (image.getD i 0).toNat

/-- Two bytes, most significant first, unsigned. -/
def halfAt (image : List Byte) (i : Nat) : Nat := byteAt image i * 256 + byteAt image (i + 1)

/-- Two bytes, most significant first, two's complement. -/
def signedAt (image : List Byte) (i : Nat) : Int :=
  if halfAt image i < 32768 then (halfAt image i : Int) else (halfAt image i : Int) - 65536

end Sys2Proof.Machine
end

