-- ==== Sys2Proof/Machine/Flags.lean ====
section
/-!
DEFINITION. Everything other blocks and the outside read off the state without changing it: the indications
(sensor-failed, all-closed, tripped), the debounced levels, the current demands, phase codes, causes and their codes,
the display, the lamps and the drive outputs.
-/

namespace Sys2Proof.Machine

open Sys2Proof

/-- The configuration in use, as a block reads it (R188). -/
def State.cfg (s : State) : Settings := s.loader.inUse.getD .none

/-- R17: a timer's count has reached its limit, which is the event of its expiry; an idle timer has none. -/
def reached (limit : Nat) (t : Timer) : Bool := t.any (fun n => decide (limit ≤ n))

/-! ## Debounced inputs (R9) -/

/-- A reader's view of a debouncer: "UNSETTLED" is seen as "INACTIVE". -/
def Debouncer.isActive (d : Debouncer) : Bool := d.stable == .active

/-- Liquid arm coupled and vapour arm coupled are both "ACTIVE". -/
def State.armsCoupled (s : State) : Bool := s.input.debounce.liquidArm.isActive && s.input.debounce.vapourArm.isActive

/-- Liquid arm coupled and vapour arm coupled are both "INACTIVE". -/
def State.armsUncoupled (s : State) : Bool :=
  !s.input.debounce.liquidArm.isActive && !s.input.debounce.vapourArm.isActive

def State.groundOk (s : State) : Bool := s.input.debounce.groundOk.isActive

/-- R5: any of the six sensors is in "FAIL". -/
def State.sensorFailed (s : State) : Bool := sixAny (fun r => r.status == .fail) s.input.sensors

def State.pCar (s : State) : Int := s.input.sensors.pCar.value

def State.pLiq (s : State) : Int := s.input.sensors.pLiq.value

def State.tLiq (s : State) : Int := s.input.sensors.tLiq.value

/-- The axis values of the latest sample event. -/
def State.axes (s : State) : Axes Int := ⟨s.input.sensors.x.value, s.input.sensors.y.value, s.input.sensors.z.value⟩

/-! ## Phases -/

/-- The ANNOUNCE phase code (section 6.2); "OFFLINE" announces nothing. -/
def Phase.code : Phase → Nat
  | .offline => 0
  | .idle => 1
  | .check => 2
  | .push => 3
  | .drain => 4
  | .recover => 5
  | .close => 6
  | .hold => 7
  | .tripped => 8

def HeldPhase.phase : HeldPhase → Phase
  | .push => .push
  | .drain => .drain
  | .recover => .recover
  | .close => .close

/-- Hold reason codes of note HOLD (R27). -/
def HoldReason.code : HoldReason → Nat
  | .operator => 1
  | .starved => 2
  | .flashing => 3
  | .trip => 4

/-- Whether a phase draws on a pool (section 8.1). -/
def Phase.draws : Phase → Pool → Bool
  | .push, .supply => true
  | .push, .header => true
  | .recover, .ret => true
  | _, _ => false

/-- Whether the last phase a record holds draws on a pool (section 7.1, R137): code 3 on SUPPLY and HEADER, code 5 on
RETURN, any other on none. -/
def codeDraws (code : Option Nat) : Pool → Bool
  | .supply => code == some 3
  | .ret => code == some 5
  | .header => code == some 3

/-- The phase is one from "IDLE" to "TRIPPED". -/
def State.running (s : State) : Bool := s.seq.phase != .offline

def State.ticketOpen (s : State) : Bool := s.ticket.current.isSome

/-! ## Current demands (R41) -/

/-- The current demand of a pool, from the phase, the throttle level and P_car in force. -/
def State.demand (s : State) : Pool → Nat
  | .supply => if s.seq.phase = .push then s.cfg.vPush else 0
  | .header =>
    if s.seq.phase = .push then s.cfg.lPush * (100 - s.det.throttle * s.cfg.throttleStep) / 100 else 0
  | .ret =>
    if s.seq.phase = .recover then
      if s.pCar ≤ (s.cfg.pRes : Int) then 0
      else min s.cfg.vRec (s.cfg.vRec * (s.pCar - (s.cfg.pRes : Int)).toNat / s.cfg.pBand)
    else 0

def State.demands (s : State) : Pools Nat := Pools.of s.demand

/-! ## Valves (R92) -/

/-- The all-closed indication: LV, SV and RV each commanded closed and in "CLOSED". -/
def ValveDriver.allClosed (v : ValveDriver) : Bool :=
  v.lvCommand == .closed && v.svOpening == 0 && v.rvOpening == 0
    && v.lv.state == .closed && v.sv.state == .closed && v.rv.state == .closed

/-! ## Causes (section 9.1) -/

/-- The causes that can be latched, in the order of their numbers. -/
def latchable : List Cause :=
  [.esd, .gas, .brk, .drift, .excess, .valve, .sensor, .ground, .uncouple, .conflict]

def causeNumber : Cause → Nat
  | .esd => 1
  | .gas => 2
  | .brk => 3
  | .drift => 4
  | .excess => 5
  | .valve => 6
  | .sensor => 7
  | .ground => 8
  | .uncouple => 9
  | .conflict => 10
  | .unknown => 15

def causeCode : Cause → Code
  | .esd => .e1
  | .gas => .e2
  | .brk => .e3
  | .drift => .e4
  | .excess => .e5
  | .valve => .e6
  | .sensor => .e7
  | .ground => .e8
  | .uncouple => .e9
  | .conflict => .ea
  | .unknown => .eu

/-- Siding scope: ESD, GAS, BREAK and DRIFT. -/
def isSiding : Cause → Bool
  | .esd => true
  | .gas => true
  | .brk => true
  | .drift => true
  | _ => false

/-- Local scope: EXCESS to CONFLICT. -/
def isLocal : Cause → Bool
  | .excess => true
  | .valve => true
  | .sensor => true
  | .ground => true
  | .uncouple => true
  | .conflict => true
  | _ => false

/-- The latched siding-scope causes as the set a TRIP carries (R157). -/
def TripUnit.sidingSet (t : TripUnit) : SidingSet :=
  ⟨t.latched.contains .esd, t.latched.contains .gas, t.latched.contains .brk, t.latched.contains .drift⟩

/-- The first cause of a cause set, in the order ESD, GAS, BREAK, DRIFT, or UNKNOWN (R42, R162). -/
def EntryCauses.first : EntryCauses → Cause
  | .unknown => .unknown
  | .known set =>
    if set.esd then .esd else if set.gas then .gas else if set.brk then .brk else if set.drift then .drift
    else .unknown

/-- The tripped indication (R158): the trip list is non-empty or a local-scope cause is latched. -/
def TripUnit.tripped (t : TripUnit) : Bool := !t.list.isEmpty || t.latched.any isLocal

/-! ## Display and lamps (R42, R44) -/

/-- What the two-character display shows. -/
inductive Display where
  | blank
  | shows (code : Code)
deriving DecidableEq, Repr

/-- The code of each phase (section 2.13). -/
def Phase.display : Phase → Code
  | .offline => .of
  | .idle => .id
  | .check => .ck
  | .push => .pu
  | .drain => .dr
  | .recover => .rc
  | .close => .cl
  | .hold => .ho
  | .tripped => .tr

/-- The two characters of a code. -/
def Code.chars : Code → String
  | .of => "OF" | .id => "ID" | .ck => "CK" | .pu => "PU" | .dr => "DR" | .rc => "RC" | .cl => "CL" | .ho => "HO"
  | .tr => "TR" | .na => "NA" | .ng => "NG" | .nt => "NT" | .ns => "NS" | .nf => "NF" | .nc => "NC" | .ni => "NI"
  | .fa => "FA" | .fb => "FB" | .fl => "FL" | .e1 => "E1" | .e2 => "E2" | .e3 => "E3" | .e4 => "E4" | .e5 => "E5"
  | .e6 => "E6" | .e7 => "E7" | .e8 => "E8" | .e9 => "E9" | .ea => "EA" | .eu => "EU" | .lm => "LM" | .lc => "LC"
  | .lr => "LR" | .lt => "LT"

/-- R42: blank in a reset, the loader cause in "OFFLINE" after a refusal, else the temporary code or the phase code. -/
def State.display (s : State) : Display :=
  if s.resetting.isSome then .blank
  else if s.seq.phase = .offline then .shows (s.loader.cause.getD .of)
  else .shows (s.seq.tempCode.getD s.seq.phase.display)

/-- The four lamps (R44), `true` for lit. -/
structure Lamps where
  run : Bool
  hold : Bool
  trip : Bool
  island : Bool
deriving DecidableEq, Repr

/-- R44; in "OFFLINE", and so in a reset, all four are dark. -/
def State.lamps (s : State) : Lamps where
  run := s.seq.phase == .push || s.seq.phase == .drain || s.seq.phase == .recover
  hold := s.seq.phase == .hold
  trip := s.seq.phase == .tripped
  island := s.running && s.share.island == .island

/-! ## Drive and line outputs -/

/-- VDRL, VDRS, VDRR, VDRB: energised or not for LV and BV, the opening in per mille for SV and RV (R81). -/
structure DriveOutputs where
  lv : Bool
  sv : Nat
  rv : Nat
  bv : Bool
deriving DecidableEq, Repr

def State.drives (s : State) : DriveOutputs :=
  ⟨s.valve.lvCommand == .opened, s.valve.svOpening, s.valve.rvOpening, s.valve.bvCommand == .opened⟩

/-- Line idle (R98). -/
def LineController.lineIdle (l : LineController) : Bool := l.track == .idle

/-- Whether an attempt of the station's own is in progress (R103). -/
def LineController.sending (l : LineController) : Bool :=
  l.state == .contend || l.state == .send || l.state == .ackchk

/-- The states in which the controller reads the frames of other devices (R103). -/
def LineController.listens (l : LineController) : Bool := l.state == .listen || l.state == .silent || l.state == .fault

/-- Whether the controller reads a frame that ends now: it receives in its state (R103), and it saw the frame's start
bit (R98, R118). -/
def LineController.receives (l : LineController) : Bool :=
  l.listens && (l.track == .idle || l.track == .inFrame || l.track == .spoilt)

/-- Whether the controller drives the ack slot of a frame with a good check: it receives the frame, in a state that
acknowledges (R103), and the ack slot is not past already (R105, 3)). -/
def LineController.acknowledges (l : LineController) : Bool :=
  l.receives && l.state != .fault && l.track != .spoilt

/-- Whether the outgoing list takes a queue request (R111, R108). -/
def LineController.takesRequests (l : LineController) : Bool := l.state != .off && l.state != .silent

/-- T_a / 4 rounded up to a whole 100 ms unit (section 6.1). -/
def spacingTime (c : Settings) : Nat := (c.announcePeriod + 3) / 4

/-- A CLEAR of the station's own waits in the outgoing list (R22, condition 3). -/
def LineController.clearWaits (l : LineController) : Bool := l.outgoing.contains .clear

/-! ## Peer table views -/

/-- The record of an address, if the table holds one. -/
def findPeer (peers : List Peer) (address : Nat) : Option Peer := peers.find? (fun p => p.address == address)

/-- R124: a CURRENT or STALE station record in MISMATCH. -/
def Peer.barsStart (p : Peer) : Bool :=
  p.cls == .station && p.signature == .mismatch && p.liveness != .lapsed

/-- R130: the originator has no record or a LAPSED one. -/
def originatorSilent (peers : List Peer) (address : Nat) : Bool :=
  match findPeer peers address with
  | none => true
  | some p => p.liveness == .lapsed

end Sys2Proof.Machine
end

