-- ==== Sys2Proof/Machine/Ops.lean ====
section
/-!
DEFINITION. The named operations that more than one command uses: notes and tickets, temporary codes, the outgoing
list, the prompt test, valve commands, phase changes and the entries into each phase, and latching a cause with the
entry into "TRIPPED".
-/

namespace Sys2Proof.Machine

open Sys2Proof

/-! ## Tickets and notes (chapter 10) -/

/-- R173: a note at the end of the list, or the overflow once eight are held. -/
def Ticket.addNote (n : Note) (t : Ticket) : Ticket :=
  if t.notes.length < 8 then { t with notes := t.notes ++ [n] } else { t with overflow := true }

/-- R173: a note is stamped with the uptime of its moment; with no ticket open it is discarded. -/
def TicketUnit.note (kind : NoteKind) (value : Nat) (u : TicketUnit) : TicketUnit :=
  { u with current := u.current.map (Ticket.addNote ⟨kind, u.uptime, value⟩) }

def State.note (kind : NoteKind) (value : Nat) (s : State) : State := s.onTicket (TicketUnit.note kind value)

/-- R174: close time, final throttle level and end reason are set, and the ticket goes to the end of the store. -/
def TicketUnit.closeTicket (reason : EndReason) (throttle : Nat) (u : TicketUnit) : TicketUnit :=
  match u.current with
  | none => u
  | some t =>
    { u with
      current := none
      store := u.store ++
        [{ t with closeTime := some u.uptime, finalThrottle := some throttle, endReason := some reason }] }

def State.closeTicket (reason : EndReason) (s : State) : State :=
  s.onTicket (TicketUnit.closeTicket reason s.det.throttle)

/-! ## Temporary codes (R43) -/

def State.setTempCode (c : Code) (s : State) : State :=
  s.onSeq (fun q => { q with tempCode := some c, tempTimer := some 0 })

/-! ## The drift baseline (R54, R76) -/

/-- The baseline becomes none, and with it the drift count 0. -/
def State.dropBaseline (s : State) : State :=
  (s.onCheck (fun c => { c with baseline := none })).onDet (fun d => { d with driftCount := 0 })

/-- R47, R49, R52, R55, R56: the check unit drops everything it holds and its step becomes "INACTIVE". -/
def State.dropCheck (s : State) : State :=
  (s.onCheck (fun _ => .reset)).onDet (fun d => { d with driftCount := 0 })

/-! ## The outgoing list (R109, R110, R111) -/

/-- The kind code of a frame (section 6.2), by which the list is ordered. -/
def OutFrame.kind : OutFrame → Nat
  | .trip => 0
  | .clear => 1
  | .announce => 2
  | .report _ => 4

/-- R109: after every frame of the same or a lower kind, before every frame of a higher one. -/
def insertFrame (f : OutFrame) (l : List OutFrame) : List OutFrame :=
  l.filter (fun g => decide (g.kind ≤ f.kind)) ++ f :: l.filter (fun g => decide (f.kind < g.kind))

/-- R110: one frame of its kind is added, and one that is there stays the only one. -/
def LineController.add (f : OutFrame) (l : LineController) : LineController :=
  if l.outgoing.contains f then l else { l with outgoing := insertFrame f l.outgoing }

/-- R110: a frame is removed; if it is in flight, its attempt goes on (DEDUCED, assumption 11). -/
def LineController.remove (f : OutFrame) (l : LineController) : LineController :=
  { l with
    outgoing := l.outgoing.filter (fun g => g != f)
    inFlight := l.inFlight.map (fun i => if i.frame = f then { i with removed := true } else i) }

/-- R110, R108: a TRIP request; a CLEAR in the list is removed. -/
def LineController.queueTrip (l : LineController) : LineController :=
  if l.takesRequests then (l.remove .clear).add .trip else l

/-- R110, R108: a CLEAR request; a TRIP in the list is removed. -/
def LineController.queueClear (l : LineController) : LineController :=
  if l.takesRequests then (l.remove .trip).add .clear else l

/-- R110, R108: an ANNOUNCE request. -/
def LineController.queueAnnounce (l : LineController) : LineController :=
  if l.takesRequests then l.add .announce else l

/-- The parts 1 to n of a REPORT series, in part order. -/
def seriesParts (n : Nat) : List OutFrame := (List.range n).map (fun i => .report (i + 1))

/-- R110: a REPORT series goes behind every frame of a lower kind, and no frame has a higher one. -/
def LineController.queueSeries (parts : Nat) (l : LineController) : LineController :=
  { l with outgoing := l.outgoing ++ seriesParts parts }

/-! ## The prompt test (R113) -/

/-- Two demands differ by at least the demand step. -/
def differsBy (step a b : Nat) : Bool := decide (step ≤ max a b - min a b)

/-- R113: the present phase code and demands against last announced. -/
def State.promptCondition (s : State) : Bool :=
  match s.line.lastAnnounced with
  | none => false
  | some a =>
    a.phaseCode != s.seq.phase.code
      || differsBy s.cfg.demandStep a.demands.supply (s.demand .supply)
      || differsBy s.cfg.demandStep a.demands.ret (s.demand .ret)
      || differsBy s.cfg.demandStep a.demands.header (s.demand .header)

/-- The spacing timer stands at the spacing time. -/
def LineController.spacingOver (spacing : Nat) (l : LineController) : Bool := reached spacing l.spacingTimer

/-- R113, the table: what a test that finds the condition does. -/
def LineController.prompt (spacing : Nat) (l : LineController) : LineController :=
  if l.outgoing.contains .announce then l
  else if l.spacingOver spacing then l.queueAnnounce
  else { l with promptRequest := true }

/-- R113: made in every line state but off and "SILENT". -/
def State.promptTest (s : State) : State :=
  if s.line.takesRequests && s.promptCondition then s.onLine (LineController.prompt (spacingTime s.cfg)) else s

/-- R41, R113: the prompt test at a change of a current demand; `before` are the demands in force before it. -/
def State.promptOnMove (before : Pools Nat) (s : State) : State := if s.demands = before then s else s.promptTest

/-! ## Valve commands (R81, R87, R88, R89) -/

/-- LV's command in a phase and drain step (R81). -/
def lvWanted (phase : Phase) (step : DrainStep) : Drive :=
  match phase, step with
  | .push, _ => .opened
  | .drain, .draining => .opened
  | _, _ => .closed

/-- BV's command in a phase and close step (R81). -/
def bvWanted (phase : Phase) (step : CloseStep) : Drive :=
  match phase, step with
  | .close, .bleeding => .opened
  | _, _ => .closed

/-- R83: the base opening of SV. -/
def baseOpening (grant rating : Nat) : Nat := min 1000 (1000 * grant / rating)

/-- R85: in "PUSH" the base opening less the trim, and 0 when the HEADER grant is 0; 0 in every other phase. -/
def State.svWanted (s : State) : Nat :=
  if s.seq.phase = .push then
    if s.share.grant.header = 0 then 0 else baseOpening s.share.grant.supply s.cfg.svRating - s.valve.trim
  else 0

/-- R86: in "RECOVER" from the RETURN grant; 0 in every other phase. -/
def State.rvWanted (s : State) : Nat :=
  if s.seq.phase = .recover then baseOpening s.share.grant.ret s.cfg.rvRating else 0

/-- R88, R89 (1): a change of LV's command starts its travel; no change leaves the channel as it is. -/
def ValveDriver.commandLv (want : Drive) (v : ValveDriver) : ValveDriver :=
  if v.lvCommand = want then v
  else
    match want with
    | .opened => { v with lvCommand := .opened, lv := ⟨.opening, some 0⟩ }
    | .closed => { v with lvCommand := .closed, lv := ⟨.closing, some 0⟩ }

/-- R88, R89 (2): what a move of a proportional opening does to its channel. -/
def moveChannel (before after : Nat) (c : Channel) : Channel :=
  if before = 0 ∧ 0 < after then ⟨.opened, none⟩
  else if 0 < before ∧ after = 0 then ⟨.closing, some 0⟩
  else c

/-- The openings of SV and RV move, each with its open or close command. -/
def ValveDriver.setOpenings (sv rv : Nat) (v : ValveDriver) : ValveDriver :=
  { v with
    svOpening := sv
    rvOpening := rv
    sv := moveChannel v.svOpening sv v.sv
    rv := moveChannel v.rvOpening rv v.rv }

/-- The commands and targets that the present phase, steps and grants ask for (R81). -/
structure Wanted where
  lv : Drive
  bv : Drive
  sv : Nat
  rv : Nat
deriving DecidableEq, Repr

def State.wanted (s : State) : Wanted :=
  ⟨lvWanted s.seq.phase s.seq.drainStep, bvWanted s.seq.phase s.seq.closeStep, s.svWanted, s.rvWanted⟩

/-- R82, R93: at a phase or step change the LV and BV commands and the targets are set, and an opening above its new
target falls to it at once; no opening rises. -/
def ValveDriver.obey (w : Wanted) (v : ValveDriver) : ValveDriver :=
  (ValveDriver.setOpenings (min v.svOpening w.sv) (min v.rvOpening w.rv)
    { v.commandLv w.lv with svTarget := w.sv, rvTarget := w.rv, bvCommand := w.bv })

def State.applyCommands (s : State) : State := s.onValve (ValveDriver.obey s.wanted)

/-! ## Phase changes -/

/-- R65, R67, R70, R75: what leaving "PUSH", and entering a phase other than "PUSH" and "DRAIN", does to the
detectors. -/
def DetectorUnit.change (before after : Phase) (d : DetectorUnit) : DetectorUnit :=
  let d := if before = .push ∧ after ≠ .push then
      { d with stage := .counting, lowCount := 0, confirmTimer := none, flashCount := 0 } else d
  if after = .push ∨ after = .drain then d
  else { d with excessCount := 0, surge := .armed, previousPLiq := none, windowCount := 0 }

/-- R143, R145: grants of pools the new phase does not draw on become 0, and the starvation timer becomes idle at an
exit from "PUSH". -/
def ShareUnit.change (before after : Phase) (u : ShareUnit) : ShareUnit :=
  { u with
    grant := Pools.of (fun p => if after.draws p then u.grant.get p else 0)
    starvation := if before = .push ∧ after ≠ .push then none else u.starvation }

/-- A phase change and all that every phase change does at its moment: the temporary code is removed (R43), the METER
marker is cleared (R172), detectors and grants follow, the valves are commanded (R82), and the prompt test is made. That
the temporary code timer is idle once the code is removed here is the model's choice (DESIGN CHOICE, assumption 22): R43
says only that the code is removed. -/
def State.enterPhase (p : Phase) (s : State) : State :=
  ((((s.onSeq (fun q => { q with phase := p, tempCode := none, tempTimer := none })).onTicket
      (fun t => { t with meterMarker := false })).onDet
      (DetectorUnit.change s.seq.phase p)).onShare
      (ShareUnit.change s.seq.phase p)).applyCommands.promptTest

/-- R20: entry into "IDLE". -/
def State.enterIdle (s : State) : State :=
  ((s.onSeq (fun q => { q with
      held := none
      reason := none
      stopped := false
      drainStep := .draining
      drainTimer := none
      residual := 0
      recoveryTimer := none
      closeStep := .shutting
      bleedTimer := none })).onInput (fun i => { i with identity := [] })).enterPhase .idle

/-- R27, R30, R33: entry into "HOLD" with its held phase and reason, and note HOLD; the residual count and the
recovery timer are dropped. -/
def State.enterHold (held : Option HeldPhase) (reason : HoldReason) (s : State) : State :=
  ((s.onSeq (fun q => { q with
      held := held, reason := some reason, residual := 0, recoveryTimer := none })).note
      .hold reason.code).enterPhase .hold

/-- R28, R34: entry into "DRAIN" at step "DRAINING", the drain timer from 0. -/
def State.enterDrain (s : State) : State :=
  (s.onSeq (fun q => { q with drainStep := .draining, drainTimer := some 0 })).enterPhase .drain

/-- R29, R34: entry into "RECOVER", the residual count 0 and the recovery timer from 0. -/
def State.enterRecover (s : State) : State :=
  (s.onSeq (fun q => { q with residual := 0, recoveryTimer := some 0 })).enterPhase .recover

/-- R31 (1): "SHUTTING" ends when LV, SV and RV are all confirmed closed: BV opens and the bleed timer starts. -/
def State.endShutting (s : State) : State :=
  if s.seq.phase = .close ∧ s.seq.closeStep = .shutting ∧ s.valve.allClosed then
    (s.onSeq (fun q => { q with closeStep := .bleeding, bleedTimer := some 0 })).applyCommands
  else s

/-- R31: entry into "CLOSE" at step "SHUTTING", which ends at once where all three valves are confirmed closed. That the
recovery timer and the drain timer are idle once "RECOVER" or "DRAIN" has ended here is the model's choice (DESIGN CHOICE,
assumption 22): R28 and R29 say nothing of it. -/
def State.enterClose (s : State) : State :=
  ((s.onSeq (fun q => { q with
      closeStep := .shutting, bleedTimer := none, drainTimer := none, recoveryTimer := none })).enterPhase
      .close).endShutting

/-- R28 (2): where "DRAIN" leads when LV is confirmed closed. -/
def State.endDrain (s : State) : State :=
  if 0 < s.cfg.capacity.ret then s.enterRecover else s.enterClose

/-- R31 (3), R32, R54: in "RELEASING" with both arms stable "INACTIVE" the ticket closes and the phase becomes "IDLE". -/
def State.endReleasing (s : State) : State :=
  if s.seq.phase = .close ∧ s.seq.closeStep = .releasing ∧ s.armsUncoupled then
    ((s.closeTicket (if s.seq.stopped then .stopped else .complete)).dropBaseline).enterIdle
  else s

/-- R38, R54: in "TRIPPED" with a ticket open and both arms stable "INACTIVE" the ticket closes. -/
def State.closeUncoupled (s : State) : State :=
  if s.seq.phase = .tripped ∧ s.ticketOpen ∧ s.armsUncoupled then
    ((s.closeTicket .tripped).dropBaseline).onSeq (fun q => { q with held := none, stopped := false })
  else s

/-! ## Trips (chapter 9) -/

/-- R37 (1): the held phase at an entry into "TRIPPED". -/
def heldAtTrip (phase : Phase) (held : Option HeldPhase) : Option HeldPhase :=
  match phase with
  | .push => some .push
  | .drain => some .drain
  | .recover => some .recover
  | .close => some .close
  | .hold => held
  | _ => none

/-- R56: a trip that finds the phase "CHECK" abandons the check. -/
def State.abandonCheck (s : State) : State := if s.seq.phase = .check then s.dropCheck else s

/-- R37, R162, R38: the entry into "TRIPPED": held phase, timers, outputs, the cause's code, note TRIP, and the closing
of a ticket that finds both arms uncoupled. -/
def State.enterTripped (cause : Cause) (originator : Nat) (s : State) : State :=
  (((((s.abandonCheck.onSeq (fun q => { q with
      held := heldAtTrip q.phase q.held
      reason := none
      drainTimer := none
      recoveryTimer := none
      bleedTimer := none
      residual := 0 })).enterPhase .tripped).setTempCode (causeCode cause)).note
      .trip (originator * 16 + causeNumber cause))).closeUncoupled

/-- R37: the entry is made from any phase but "OFFLINE" and "TRIPPED". -/
def State.tripEntry (cause : Cause) (originator : Nat) (s : State) : State :=
  if s.seq.phase = .offline ∨ s.seq.phase = .tripped then s else s.enterTripped cause originator

/-- R156, R159: the entry of an originator takes a cause set in place, or is added at the end. -/
def setEntry (originator : Nat) (causes : EntryCauses) (l : List TripEntry) : List TripEntry :=
  if l.any (fun e => e.originator == originator) then
    l.map (fun e => if e.originator = originator then { e with causes := causes } else e)
  else l ++ [⟨originator, causes⟩]

/-- R160, R161, R164: the entry of an originator leaves the list. -/
def removeEntry (originator : Nat) (l : List TripEntry) : List TripEntry :=
  l.filter (fun e => e.originator != originator)

/-- A cause joins the latched causes, which stand in the order of their numbers. -/
def latchInto (c : Cause) (latched : List Cause) : List Cause :=
  latchable.filter (fun d => d == c || latched.contains d)

/-- R154, R156: what a latching does inside the trip unit of the station with this address. -/
def TripUnit.latch (own : Nat) (c : Cause) (t : TripUnit) : TripUnit :=
  let t := { t with latched := latchInto c t.latched }
  if isSiding c then { t with outstanding := true, list := setEntry own (.known t.sidingSet) t.list } else t

/-- R154: a report of a cause. A cause already latched adds nothing; in "OFFLINE" no cause is reported. -/
def State.latch (c : Cause) (s : State) : State :=
  if s.seq.phase = .offline ∨ s.trip.latched.contains c then s
  else
    ((s.onTrip (TripUnit.latch s.loader.ownAddress c)).onLine
      (fun l => if isSiding c then l.queueTrip else l)).tripEntry c s.loader.ownAddress

/-- R159, R161: a remote originator's entry is set. An addition to an empty list makes the entry into "TRIPPED". -/
def State.addRemote (originator : Nat) (causes : EntryCauses) (s : State) : State :=
  if s.trip.list.isEmpty then
    (s.onTrip (fun t => { t with list := setEntry originator causes t.list })).tripEntry causes.first originator
  else s.onTrip (fun t => { t with list := setEntry originator causes t.list })

end Sys2Proof.Machine
end

