-- ==== Sys2Proof/Machine/Share.lean ====
section
/-!
DEFINITION. The share unit (chapter 8): the share computation of a sample event, starvation, the settle rings, and the
entries into and exits from ISLAND.
-/

namespace Sys2Proof.Machine

open Sys2Proof

/-! ## Effective demand and reduced capacity (R136, R137) -/

/-- R136: the smaller of the current demand and the smallest value of the ring. -/
def effectiveDemand (demand : Nat) (ring : List Nat) : Nat := ring.foldl min demand

/-- R137: the LAPSED station records whose last phase draws on the pool. -/
def lapsedDrawers (peers : List Peer) (p : Pool) : Nat :=
  (peers.filter (fun r => r.cls == .station && r.liveness == .lapsed && codeDraws r.lastPhase p)).length

/-- R137: C'_p. -/
def State.reducedCapacity (s : State) (p : Pool) : Nat :=
  s.cfg.capacity.get p - lapsedDrawers s.peers p * s.cfg.allowance.get p

/-! ## Participants and the water fill (R138, R139) -/

/-- A participant of one pool: its demand and its address. -/
structure Participant where
  demand : Nat
  address : Nat
deriving DecidableEq, Repr

/-- R138: a CURRENT or STALE station record, with no more than the allowance where its island flag is set. -/
def peerParticipant (p : Pool) (allowance : Nat) (r : Peer) : Option Participant :=
  if r.cls = .station ∧ r.liveness ≠ .lapsed then
    some ⟨if r.islandFlag then min (r.demands.get p) allowance else r.demands.get p, r.address⟩
  else none

/-- R138: the participants of a pool, the station itself first. -/
def State.participants (s : State) (p : Pool) : List Participant :=
  ⟨effectiveDemand (s.demand p) (s.share.rings.get p), s.loader.ownAddress⟩
    :: s.peers.filterMap (peerParticipant p (s.cfg.allowance.get p))

/-- R139: by demand, smallest first; equal demands by address, lowest first. -/
def Participant.before (a b : Participant) : Bool :=
  decide (a.demand < b.demand) || (a.demand == b.demand && decide (a.address ≤ b.address))

def insertParticipant (a : Participant) : List Participant → List Participant
  | [] => [a]
  | b :: rest => if a.before b then a :: b :: rest else b :: insertParticipant a rest

def orderParticipants : List Participant → List Participant
  | [] => []
  | a :: rest => insertParticipant a (orderParticipants rest)

/-- R139: one pass; each participant in turn receives the smaller of its demand and the level R / m. -/
def waterFill (remainder : Nat) : List Participant → List (Participant × Nat)
  | [] => []
  | a :: rest =>
    let share := min a.demand (remainder / (rest.length + 1))
    (a, share) :: waterFill (remainder - share) rest

/-- The share received at an address. -/
def shareAt (address : Nat) (shares : List (Participant × Nat)) : Nat :=
  match shares.find? (fun x => x.1.address == address) with
  | none => 0
  | some x => x.2

/-- R139: the station's own share of a pool. -/
def State.ownShare (s : State) (p : Pool) : Nat :=
  shareAt s.loader.ownAddress (waterFill (s.reducedCapacity p) (orderParticipants (s.participants p)))

/-! ## Grants (R141 to R143) -/

/-- A grant below the pool's minimum grant becomes 0. -/
def orNothing (minimum g : Nat) : Nat := if g < minimum then 0 else g

/-- R141, R142: the grant of a pool whose own share is `share`. -/
def State.grantOf (s : State) (p : Pool) (share : Nat) : Nat :=
  if s.seq.phase.draws p then
    orNothing (s.cfg.minGrant.get p)
      (if s.share.island = .joined then min share (s.cfg.spotRating.get p)
       else min (s.demand p) (min (s.cfg.allowance.get p) (s.cfg.spotRating.get p)))
  else 0

/-- R133: the three pools' shares and grants. -/
def State.computeShares (s : State) : State :=
  s.onShare (fun u => { u with
    share := Pools.of s.ownShare
    grant := Pools.of (fun p => s.grantOf p (s.ownShare p)) })

/-! ## Starvation (R144, R145) -/

/-- R144: a grant that "PUSH" needs is 0. -/
def State.starved (s : State) : Bool := s.share.grant.supply == 0 || s.share.grant.header == 0

/-- R144: the value of note STARVED. -/
def State.starvedValue (s : State) : Nat :=
  (if s.share.grant.supply = 0 then 1 else 0) + (if s.share.grant.header = 0 then 2 else 0)

/-- R144: starvation judged on the grants of the computation just made. -/
def State.judgeStarvation (s : State) : State :=
  if s.seq.phase = .push then
    if s.starved then
      if s.share.starvation.isSome then s
      else (s.onShare (fun u => { u with starvation := some 0 })).note .starved s.starvedValue
    else s.onShare (fun u => { u with starvation := none })
  else s

/-- R133: the share unit at a sample event. -/
def State.shareWork (s : State) : State := s.computeShares.judgeStarvation

/-- STARVATION_TIMER_EXPIRY: R145, R27. -/
def execStarvationTimerExpiry (s : State) : Host.Outcome State Fault Refusal :=
  .next
    (if reached s.cfg.starveLimit s.share.starvation then
      if s.seq.phase = .push then
        (s.onShare (fun u => { u with starvation := none })).enterHold (some .push) .starved
      else s.onShare (fun u => { u with starvation := none })
    else s)

/-! ## ISLAND (R146 to R150) -/

/-- R149 (2): every value of a ring is capped at the allowance. -/
def capRing (allowance : Nat) (ring : List Nat) : List Nat := ring.map (fun v => min v allowance)

/-- R149: the entry into ISLAND, by count (1) or by "FAULT" (2). -/
def State.enterIsland (how : Nat) (s : State) : State :=
  (s.onShare (fun u => { u with
      island := .island
      rings := poolsZip capRing s.cfg.allowance u.rings
      grant := Pools.of (fun p =>
        orNothing (s.cfg.minGrant.get p) (min (u.grant.get p) (s.cfg.allowance.get p))) })).note .island how

/-- R150: the exit from ISLAND. -/
def State.exitIsland (s : State) : State :=
  (s.onShare (fun u => { u with
      island := .joined
      grant := Pools.of (fun p =>
        orNothing (s.cfg.minGrant.get p) (min (u.grant.get p) (u.share.get p))) })).note .rejoin 0

/-- R135: the oldest value leaves the ring and the carried one becomes the newest. -/
def pushRing (carried : Nat) (ring : List Nat) : List Nat := ring.drop 1 ++ [carried]

/-- R135, R146: the report of an acknowledged ANNOUNCE. -/
def State.reportAcked (carried : Pools Nat) (s : State) : State :=
  let s := s.onShare (fun u => { u with rings := poolsZip pushRing carried u.rings })
  if s.share.island = .island ∧ s.share.faultMarker = false then s.exitIsland else s

/-- R146: the report of an unacknowledged ANNOUNCE with the count it carries. -/
def State.reportUnacked (count : Nat) (s : State) : State :=
  if s.cfg.islandCount ≤ count ∧ s.share.island = .joined ∧ s.share.faultMarker = false then s.enterIsland 1 else s

/-- R147: the report of the entry into "FAULT". -/
def State.reportFault (s : State) : State :=
  let s' := s.onShare (fun u => { u with faultMarker := true })
  if s.share.island = .joined then s'.enterIsland 2 else s'

end Sys2Proof.Machine
end

