-- ==== Sys2Proof/Machine/Tickets.lean ====
section
/-!
DEFINITION. The ticket unit (chapter 10): metering, the METER note, the report layout, INQUIRY and COLLECT, and the
uptime.
-/

namespace Sys2Proof.Machine

open Sys2Proof

/-! ## Metering (R170, R172) -/

/-- R170: a mass sum stops at 4 294 967 295 g. -/
def addGrams (sum count grams : Nat) : Nat := min 4294967295 (sum + count * grams)

/-- R170 (1) to (3): the open ticket at a sample event. -/
def Ticket.meter (c : Settings) (i : InputUnit) (t : Ticket) : Ticket :=
  { t with
    delivered := addGrams t.delivered i.liquidSample c.liquidGrams
    recovered := addGrams t.recovered i.vapourSample c.vapourGrams
    peak := max t.peak i.flow }

/-- R172: the METER test. -/
def State.meterTest (s : State) : Bool :=
  s.ticketOpen && decide (0 < s.input.liquidSample) && s.valve.lvCommand == .closed && s.valve.lv.state == .closed
    && !s.ticket.meterMarker

/-- R172: note METER with the phase code, and the marker set. -/
def State.meterNote (s : State) : State :=
  if s.meterTest then (s.note .meter s.seq.phase.code).onTicket (fun t => { t with meterMarker := true }) else s

/-- R170, R172: the ticket unit at a sample event. -/
def State.ticketWork (s : State) : State :=
  (s.onTicket (fun t => { t with current := t.current.map (Ticket.meter s.cfg s.input) })).meterNote

/-! ## Report layout (section 10.7) -/

def NoteKind.code : NoteKind → Nat
  | .empty => 1
  | .throttle => 2
  | .restore => 3
  | .starved => 4
  | .hold => 5
  | .resume => 6
  | .trip => 7
  | .island => 8
  | .rejoin => 9
  | .meter => 10

def EndReason.code : EndReason → Nat
  | .complete => 1
  | .stopped => 2
  | .tripped => 3
  | .reset => 4

def byteOfNat (n : Nat) : Byte := BitVec.ofNat 8 n

/-- Five bytes: kind and value, then the stamp less the open time, clamped to 16 777 215 s. -/
def noteBytes (openTime : Nat) (n : Note) : List Byte :=
  let offset := min 16777215 (n.stamp - openTime)
  [byteOfNat (n.kind.code * 16 + n.value / 256), byteOfNat n.value,
   byteOfNat (offset / 65536), byteOfNat (offset / 256), byteOfNat offset]

/-- Identity characters from position `first` (counted from 1), `n` of them; beyond the length 00h. -/
def identityBytes (identity : List Byte) (first n : Nat) : List Byte :=
  (List.range n).map (fun i => identity.getD (first - 1 + i) 0#8)

/-- The data bytes of a part of a ticket's series; `present` is the detector unit's throttle level. -/
def reportData (present : Nat) (t : Ticket) (part : Nat) : List Byte :=
  match part with
  | 1 =>
    [byteOfNat (if t.endReason.isSome then 2 else 1), byteOfNat t.station,
     byteOfNat ((t.endReason.map EndReason.code).getD 0), byteOfNat (t.finalThrottle.getD present),
     byteOfNat ((if t.overflow then 128 else 0) + t.notes.length)]
      ++ bytesOfNat32 t.openTime ++ bytesOfNat16 t.peak
  | 2 =>
    bytesOfNat32 (t.closeTime.getD 0) ++ bytesOfNat32 (t.delivered / 1000) ++ bytesOfNat16 (t.delivered % 1000)
      ++ [byteOfNat t.identity.length]
  | 3 =>
    bytesOfNat32 (t.recovered / 1000) ++ bytesOfNat16 (t.recovered % 1000) ++ identityBytes t.identity 1 5
  | 4 => identityBytes t.identity 6 7
  | k => ((t.notes.drop (2 * k - 10)).take 2).flatMap (noteBytes t.openTime)

/-- The ticket that bears a number: the open one or one of the store (R177). -/
def TicketUnit.find (number : Nat) (u : TicketUnit) : Option Ticket :=
  match u.current with
  | some t => if t.number = number then some t else u.store.find? (fun x => x.number == number)
  | none => u.store.find? (fun x => x.number == number)

/-- R177: the data of one part of the pending series; a NONE series carries the status byte alone. -/
def State.partData (s : State) (series : Series) (part : Nat) : List Byte :=
  if series.parts = 1 then [0#8]
  else
    match s.ticket.find series.number with
    | some t => reportData s.det.throttle t part
    | none => [0#8]

/-- The REPORT payload of one part: ticket number, part index, part count, data. -/
def State.reportPayload (s : State) (part : Nat) : List Byte :=
  match s.ticket.series with
  | some series => bytesOfNat16 series.number ++ [byteOfNat part, byteOfNat series.parts] ++ s.partData series part
  | none => []

/-! ## INQUIRY and COLLECT (R176, R179) -/

/-- R176: part count 4 plus half the number of notes, rounded up. -/
def partsOf (t : Ticket) : Nat := 4 + (t.notes.length + 1) / 2

/-- R176: the series an INQUIRY for a number asks for; a NONE series has part count 1 (DEDUCED, assumption 16). -/
def TicketUnit.seriesFor (number : Nat) (u : TicketUnit) : Series :=
  if number = 0 then
    match u.store with
    | [] => ⟨0, 1⟩
    | t :: _ => ⟨t.number, partsOf t⟩
  else
    match u.find number with
    | some t => ⟨number, partsOf t⟩
    | none => ⟨number, 1⟩

/-- R176: an INQUIRY addressed to the station. The line controller refuses the series in "SILENT" (R108). -/
def State.answerInquiry (number : Nat) (s : State) : State :=
  if s.ticket.series.isSome then s
  else if s.line.takesRequests then
    (s.onTicket (fun t => { t with series := some (t.seriesFor number) })).onLine
      (LineController.queueSeries (s.ticket.seriesFor number).parts)
  else s

/-- R179: the named ticket leaves the store unless the pending series names it; the open ticket and any other number
are left alone. -/
def TicketUnit.collect (number : Nat) (u : TicketUnit) : TicketUnit :=
  if (u.series.map Series.number) = some number then u
  else { u with store := u.store.filter (fun t => t.number != number) }

/-! ## Uptime (R168) -/

/-- UPTIME_SECOND: R168. The uptime counts from the end of a POR on, and stops at its maximum. -/
def execUptimeSecond (s : State) : Host.Outcome State Fault Refusal :=
  .next (if s.resetting = some .por then s
         else s.onTicket (fun t => { t with uptime := min 4294967295 (t.uptime + 1) }))

end Sys2Proof.Machine
end

