-- ==== Sys2Proof/Machine/Line.lean ====
section
/-!
DEFINITION. The line controller's own attempts and states (chapter 6): contention, its ends, "FAULT" and its exit, line
idle, and the announce timers.
-/

namespace Sys2Proof.Machine

open Sys2Proof

/-! ## Contention (R102, R103, R157) -/

/-- R157 (1): the cause set of a TRIP as its two payload bytes. -/
def SidingSet.bytes (s : SidingSet) : List Byte :=
  [0#8, byteOfNat ((if s.drift then 8 else 0) + (if s.brk then 4 else 0) + (if s.gas then 2 else 0)
    + (if s.esd then 1 else 0))]

/-- The flags byte of an ANNOUNCE: trip outstanding, island, closed-ticket count. -/
def State.flagsByte (s : State) : Byte :=
  byteOfNat ((if s.trip.outstanding then 128 else 0) + (if s.share.island = .island then 64 else 0)
    + s.ticket.store.length)

/-- R102: the ten payload bytes of an ANNOUNCE. -/
def State.announceBytes (s : State) : List Byte :=
  [byteOfNat s.seq.phase.code, s.flagsByte] ++ bytesOfNat16 (s.demand .supply) ++ bytesOfNat16 (s.demand .ret)
    ++ bytesOfNat16 (s.demand .header) ++ bytesOfNat16 (s.loader.signature.getD 0)

/-- R102: the payload of a frame, taken at its contention. -/
def State.payloadOf (s : State) : OutFrame → List Byte
  | .trip => s.trip.sidingSet.bytes
  | .clear => []
  | .announce => s.announceBytes
  | .report part => s.reportPayload part

/-- R102, R99: the frame in flight, with its payload and check. -/
def State.launch (s : State) (f : OutFrame) : InFlight where
  frame := f
  payload := s.payloadOf f
  check := frameCheck f.kind s.loader.ownAddress (s.payloadOf f)
  carried := ⟨s.seq.phase.code, s.demands⟩
  removed := false

/-- R103: the head frame becomes the frame in flight, and line idle becomes no at its start bit. -/
def State.contend (s : State) (f : OutFrame) : State :=
  s.onLine (fun l => { l with state := .contend, track := .inFrame, inFlight := some (s.launch f) })

/-- R107: bits of both levels have been read, each run less than one of its units. -/
def LineController.bitsRead (l : LineController) : LineController := { l with recessiveRun := 0, dominantRun := 0 }

/-- R103: arbitration won. The start bit was read back dominant. -/
def LineController.winArbitration (l : LineController) : LineController := { l.bitsRead with state := .send }

/-- R98: a start bit of another device's frame: line idle becomes no for the length of that frame. -/
def LineController.startBit (l : LineController) : LineController := { l.bitsRead with track := .inFrame }

/-- CONTENTION_START: R103. A start bit on an idle line: in "LISTEN" with a frame in the list the station begins at it; a
station with nothing to send, or that does not send, takes it as another device's (DESIGN CHOICE, assumption 8). -/
def execContentionStart (s : State) : Host.Outcome State Fault Refusal :=
  .next
    (if s.line.receives ∧ s.line.track = .idle then
      match s.line.outgoing with
      | [] => s.onLine LineController.startBit
      | f :: _ => if s.line.state = .listen then s.contend f else s.onLine LineController.startBit
    else s)

/-! ## The ends of an attempt (R104 to R106) -/

/-- R104: the station goes on reading the frame as a receiver; the frame in flight stays at the head of the list. -/
def LineController.loseArbitration (l : LineController) : LineController :=
  { l.bitsRead with state := .listen, inFlight := none, track := .inFrame }

/-- ARBITRATION_LOSS: R104. Arbitration is lost in "CONTEND" alone. -/
def execArbitrationLoss (s : State) : Host.Outcome State Fault Refusal :=
  .next (if s.line.state = .contend then s.onLine LineController.loseArbitration else s)

/-- R107, R147: the entry into "FAULT": the station stops driving, and the share unit hears of it. -/
def State.enterFault (s : State) : State :=
  (s.onLine (fun l => { l with state := .fault, inFlight := none })).reportFault

/-- Whether an attempt in this line state can still read the error at this place (R103, R105). -/
def LineState.reaches : LineState → SendErrorPlace → Bool
  | .contend, _ => true
  | .send, .body => true
  | .send, .trailer => true
  | .ackchk, .trailer => true
  | _, _ => false

/-- R98, R105: where the station stands on the line after a send error. A start bit read recessive leaves the line idle:
no frame stands on it (DEDUCED, assumption 10). -/
def trackAfterError : SendErrorPlace → Track
  | .start => .idle
  | .header => .inFrame
  | .body => .inFrame
  | .trailer => .spoilt

/-- R107: a start bit read recessive is no dominant bit, so the recessive run goes on, up to and through the entry into
"FAULT" at the eighth of them (DEDUCED, assumption 9). -/
def runsAfterError (place : SendErrorPlace) (l : LineController) : LineController :=
  if place = .start then l else l.bitsRead

/-- R105: the station stops driving and reads on as a receiver, and the send-error count rises. -/
def LineController.failSend (place : SendErrorPlace) (l : LineController) : LineController :=
  { runsAfterError place l with
    state := .listen
    inFlight := none
    sendErrors := min 8 (l.sendErrors + 1)
    track := trackAfterError place }

/-- SEND_ERROR: R105; the eighth consecutive one enters "FAULT" (R107). -/
def execSendError (place : SendErrorPlace) (s : State) : Host.Outcome State Fault Refusal :=
  .next
    (if s.line.state.reaches place then
      if 8 ≤ s.line.sendErrors + 1 then (s.onLine (LineController.failSend place)).enterFault
      else s.onLine (LineController.failSend place)
    else s)

/-- R112 (1) to (3), R114: what a completed ANNOUNCE sets, its timers started and the prompt request cleared. The
spacing timer counts whole 100 ms units from the start of the attempt, which took less than one. -/
def LineController.announced (carried : Announced) (l : LineController) : LineController :=
  { l with
    lastAnnounced := some carried, announceTimer := some 0, spacingTimer := some 0, promptRequest := false }

/-- R115: the unacknowledged-announce count after a completed ANNOUNCE. -/
def LineController.countAck (acked : Bool) (l : LineController) : LineController :=
  { l with unacked := if acked then 0 else min 255 (l.unacked + 1) }

/-- R112, R115: a completed ANNOUNCE. -/
def State.announceCompleted (acked : Bool) (carried : Announced) (s : State) : State :=
  let s := (s.onLine (LineController.announced carried)).promptTest.onLine (LineController.countAck acked)
  if acked then s.reportAcked carried.demands else s.reportUnacked s.line.unacked

/-- A REPORT part is still in the list. -/
def LineController.seriesWaits (l : LineController) : Bool := l.outgoing.any (fun f => f.kind == 4)

/-- R116, R178: after a completed REPORT part the pending series ends once the last part has left the list. -/
def State.partCompleted (s : State) : State :=
  if s.line.seriesWaits then s else s.onTicket (fun t => { t with series := none })

/-- R106 (1), (2), (5): the frame leaves the list unless R110 removed it already, and the send-error count clears. -/
def LineController.finishSend (i : InFlight) (l : LineController) : LineController :=
  { l.bitsRead with
    outgoing := if i.removed then l.outgoing else l.outgoing.filter (fun g => g != i.frame)
    inFlight := none
    sendErrors := 0
    state := .listen
    track := .afterFrame }

/-- R106: a completed send. -/
def State.completeSend (acked : Bool) (i : InFlight) (s : State) : State :=
  let s := s.onLine (LineController.finishSend i)
  match i.frame with
  | .announce => s.announceCompleted acked i.carried
  | .report _ => s.partCompleted
  | _ => s

/-- SEND_COMPLETED: R106. It ends an attempt of the station's own. -/
def execSendCompleted (acked : Bool) (s : State) : Host.Outcome State Fault Refusal :=
  .next
    (match s.line.inFlight with
     | none => s
     | some i => if s.line.sending then s.completeSend acked i else s)

/-! ## Stuck line and the exit from "FAULT" (R107) -/

/-- R98, R107: a dominant run of more than 5 ms, 250 bits, as every state that reads the line sees it. On an idle line its
first bit is a start bit; that frame, or one that was being read, is at its end by then, and line idle is next at
the eleventh recessive bit. A station that follows no frame goes on following none. -/
def LineController.dominant (l : LineController) : LineController :=
  { l with
    dominantRun := 5
    recessiveRun := 0
    track := if l.track = .lost then .lost else .afterFrame }

/-- STUCK_LINE: R107. In any state other than off, "FAULT" and "SILENT" the controller enters "FAULT" and drops the
frame it was reading. -/
def execStuckLine (s : State) : Host.Outcome State Fault Refusal :=
  .next
    (if s.line.state = .off then s
     else if s.line.state = .fault ∨ s.line.state = .silent then s.onLine LineController.dominant
     else (s.onLine (fun l => { l.dominant with track := .lost })).enterFault)

/-- FAULT_EXIT: R107, R147: a recessive run of 1 s in "FAULT". ISLAND stays until an acknowledged ANNOUNCE. A run that
stands at 1 s already at the entry into "FAULT", after eight start bits read recessive on a quiet line, is taken as
having reached it, so that the exit may come at once (DEDUCED, assumption 9): R107 says "reaches 1 s in "FAULT"". -/
def execFaultExit (s : State) : Host.Outcome State Fault Refusal :=
  .next
    (if s.line.state = .fault ∧ 10 ≤ s.line.recessiveRun then
      (s.onLine (fun l => { l with state := .listen, track := .idle, sendErrors := 0, dominantRun := 0 })).onShare
        (fun u => { u with faultMarker := false })
    else s)

/-! ## Line idle (R98) -/

/-- R98: the eleventh recessive bit after an end field, or the 168th for a station that follows no frame. A station
inside a frame holds line idle no throughout. -/
def LineController.becomeIdle (l : LineController) : LineController :=
  if l.track = .lost ∨ l.track = .afterFrame then { l with track := .idle, dominantRun := 0 } else l

/-- LINE_IDLE: R98. In off the station reads nothing from the line (R117). -/
def execLineIdle (s : State) : Host.Outcome State Fault Refusal :=
  .next (if s.line.state = .off then s else s.onLine LineController.becomeIdle)

/-! ## Announce timing (R112, R114) -/

/-- ANNOUNCE_TIMER_EXPIRY: R112. The timer becomes idle and an ANNOUNCE is queued. -/
def execAnnounceTimerExpiry (s : State) : Host.Outcome State Fault Refusal :=
  .next
    (if reached s.cfg.announcePeriod s.line.announceTimer then
      s.onLine (fun l => { l with announceTimer := none }.queueAnnounce)
    else s)

/-- R114: the spacing timer stands at the spacing time; a prompt request is cleared and queues an ANNOUNCE. -/
def LineController.spacingReached (spacing : Nat) (l : LineController) : LineController :=
  if l.promptRequest then { l with spacingTimer := some spacing, promptRequest := false }.queueAnnounce
  else { l with spacingTimer := some spacing }

/-- SPACING_TIME_REACHED: R114. -/
def execSpacingTimeReached (s : State) : Host.Outcome State Fault Refusal :=
  .next
    (if s.line.spacingOver (spacingTime s.cfg) then s.onLine (LineController.spacingReached (spacingTime s.cfg)) else s)

end Sys2Proof.Machine
end

