-- ==== Sys2Proof/Machine/Peers.lean ====
section
/-!
DEFINITION. The peer table (chapter 7): creation and refresh at a frame arrival, ageing and removal.
-/

namespace Sys2Proof.Machine

open Sys2Proof

/-- The class of an address (section 7.1). -/
def classOf (address : Nat) : PeerClass := if isStation address then .station else .observer

/-- R120: a record created by a frame other than ANNOUNCE. -/
def newPeer (address : Nat) : Peer where
  address := address
  cls := classOf address
  liveness := .current
  lastPhase := none
  demands := ⟨0, 0, 0⟩
  islandFlag := false
  signature := if isStation address then .unheard else .absent
  age := 0
  lapsedTime := 0

/-- R122: liveness, age and time in LAPSED of a refresh. -/
def Peer.refresh (p : Peer) : Peer := { p with liveness := .current, age := 0, lapsedTime := 0 }

/-- R123: the signature of a station's ANNOUNCE against the own one; an observer's is not compared. -/
def compareSignature (own : Option Nat) (cls : PeerClass) (heard : Half) : SignatureState :=
  match cls with
  | .observer => .absent
  | .station => if own = some heard.toNat then .match else .mismatch

/-- R121: a refresh with an ANNOUNCE's contents. -/
def Peer.announce (own : Option Nat) (a : AnnouncePayload) (p : Peer) : Peer :=
  { p.refresh with
    lastPhase := some a.phaseCode.toNat
    demands := announceDemands a
    islandFlag := announceIsland a
    signature := compareSignature own p.cls a.signature }

/-- R120, R121, R122: the record of an address is refreshed, or created where the table holds none. -/
def touchPeer (address : Nat) (f : Peer → Peer) (peers : List Peer) : List Peer :=
  if peers.any (fun p => p.address == address) then
    peers.map (fun p => if p.address = address then f p else p)
  else peers ++ [f (newPeer address)]

/-- R122: a TRIP, CLEAR, INQUIRY, COLLECT or REPORT arrival at the table. -/
def State.refreshPeer (address : Nat) (s : State) : State := s.onPeers (touchPeer address Peer.refresh)

/-- R121: an ANNOUNCE arrival at the table. -/
def State.announcePeer (address : Nat) (a : AnnouncePayload) (s : State) : State :=
  s.onPeers (touchPeer address (Peer.announce s.loader.signature a))

/-! ## Ageing (R125 to R127) -/

/-- R125: the stale threshold in 100 ms units. -/
def staleThreshold (c : Settings) : Nat := c.staleCount * c.announcePeriod

/-- R125: the lapse threshold in 100 ms units. -/
def lapseThreshold (c : Settings) : Nat := c.lapseCount * c.announcePeriod

/-- STALE_THRESHOLD_REACHED: R125, of a CURRENT record whose age stands at the threshold; one refreshed before it has
not reached it (R128). -/
def execStaleThresholdReached (address : Address) (s : State) : Host.Outcome State Fault Refusal :=
  .next (s.onPeers (List.map (fun p =>
    if p.address = address.toNat ∧ p.liveness = .current ∧ staleThreshold s.cfg ≤ p.age then
      { p with liveness := .stale }
    else p)))

/-- LAPSE_THRESHOLD_REACHED: R126, R128, of a STALE record whose age stands at the threshold. -/
def execLapseThresholdReached (address : Address) (s : State) : Host.Outcome State Fault Refusal :=
  .next (s.onPeers (List.map (fun p =>
    if p.address = address.toNat ∧ p.liveness = .stale ∧ lapseThreshold s.cfg ≤ p.age then
      { p with liveness := .lapsed, age := lapseThreshold s.cfg, lapsedTime := 0 }
    else p)))

/-- R127: the record of this address is LAPSED, and its time in LAPSED stands at the forget time. -/
def Peer.forgotten (c : Settings) (address : Nat) (p : Peer) : Bool :=
  p.address == address && p.liveness == .lapsed && decide (10 * c.forgetTime ≤ p.lapsedTime)

/-- FORGET_TIME_REACHED: R127, R128, of a LAPSED record, which is removed. -/
def execForgetTimeReached (address : Address) (s : State) : Host.Outcome State Fault Refusal :=
  .next (s.onPeers (List.filter (fun p => !p.forgotten s.cfg address.toNat)))

end Sys2Proof.Machine
end

