-- ==== Sys2Proof/Machine/Frames.lean ====
section
/-!
DEFINITION. Frames received on the siding line (chapter 6, sections 6.3 and 6.4). One operation, `receive`, computes the
check of a frame and compares it with the check field, drives or leaves the ack slot, and decides by R100 and R101 what
comes of the frame: its fields decide, not the command's name (DESIGN CHOICE, assumption 18).
-/

namespace Sys2Proof.Machine

open Sys2Proof

/-- R98, R100: a frame has ended, with its ack slot driven or not; line idle is next at the eleventh consecutive recessive
bit. -/
def State.frameEnded (ack : Bool) (s : State) : State :=
  s.onLine (fun l => { l.bitsRead with track := .afterFrame, ackDriven := ack })

/-- R98, R107: a frame that the station does not follow ends. Where it listens, the frame's bits of both levels have
ended either run; it waits for line idle as before. -/
def State.frameUnfollowed (s : State) : State := if s.line.listens then s.onLine LineController.bitsRead else s

/-- R108: a good frame of the own source that the station is not sending itself. In "SILENT" it changes nothing
more. -/
def State.takeConflict (s : State) : State :=
  if s.line.state = .silent then s
  else
    ((s.onLine (fun l => { l with
        state := .silent
        outgoing := []
        inFlight := none
        promptRequest := false
        announceTimer := none
        spacingTimer := none })).onTicket (fun t => { t with series := none })).latch .conflict

/-- R101: a good frame at its end: the lines of the table in their order. -/
def State.takeGood (f : Frame) (hand : State → State) (s : State) : State :=
  if f.source.toNat = s.loader.ownAddress then s.takeConflict
  else if validSource f.source.toNat && lengthOfKind f.kind.toNat f.payload.length then hand s
  else s

/-- R100: a frame ends now, with its check good or bad, and with its ack delimiter and end field all recessive or not
(`ends`). A station that does not receive it takes nothing from it but its bits. With the check bad it is not acknowledged and is
discarded; with the check good it is acknowledged where R103 says so, and is a good frame, with what then comes of it,
if its end is good and no send error was read in it. -/
def State.endFrame (good ends : Bool) (act : State → State) (s : State) : State :=
  if s.line.receives then
    if good then
      if ends ∧ s.line.track ≠ .spoilt then act (s.frameEnded s.line.acknowledges)
      else s.frameEnded s.line.acknowledges
    else s.frameEnded false
  else s.frameUnfollowed

/-- R99, R101: a frame whose fields and check field were read: the station computes the check over the fields and compares
it, and a good frame is a conflict, is handed to its owners or is discarded. -/
def State.receive (f : Frame) (hand : State → State) (s : State) : State :=
  s.endFrame (checkGood f) true (State.takeGood f hand)

/-! ## What the owners of a good frame do (R101) -/

/-- R159, R122: a TRIP. -/
def State.takeTrip (source : Address) (causeSet : Half) (s : State) : State :=
  (s.refreshPeer source.toNat).addRemote source.toNat (entryCausesOf (sidingSetOfHalf causeSet))

/-- R160, R161: the entry of an originator is removed from the trip list. -/
def State.dropRemote (originator : Nat) (s : State) : State :=
  s.onTrip (fun t => { t with list := removeEntry originator t.list })

/-- R160, R122: a CLEAR. -/
def State.takeClear (source : Address) (s : State) : State := (s.refreshPeer source.toNat).dropRemote source.toNat

/-- R161: the trip list mended from the trip-outstanding bit of an ANNOUNCE. -/
def State.mendList (originator : Nat) (outstanding : Bool) (s : State) : State :=
  if outstanding then
    if s.trip.list.any (fun e => e.originator == originator) then s else s.addRemote originator .unknown
  else s.dropRemote originator

/-- R121, R123, R161: an ANNOUNCE. -/
def State.takeAnnounce (source : Address) (payload : AnnouncePayload) (s : State) : State :=
  (s.announcePeer source.toNat payload).mendList source.toNat (announceOutstanding payload)

/-- R101, R176, R179: an observer's INQUIRY or COLLECT that targets the station reaches the ticket unit. -/
def State.addressedTo (s : State) (source : Address) (target : Byte) : Bool :=
  isObserver source.toNat && target.toNat == s.loader.ownAddress

/-- R176, R122: an INQUIRY. -/
def State.takeInquiry (source : Address) (target : Byte) (number : Half) (s : State) : State :=
  if s.addressedTo source target then (s.refreshPeer source.toNat).answerInquiry number.toNat
  else s.refreshPeer source.toNat

/-- R179, R122: a COLLECT. -/
def State.takeCollect (source : Address) (target : Byte) (number : Half) (s : State) : State :=
  if s.addressedTo source target then (s.refreshPeer source.toNat).onTicket (TicketUnit.collect number.toNat)
  else s.refreshPeer source.toNat

/-- R101: a frame given as it was read goes to its owners by its kind. -/
def State.handOn (f : Frame) (s : State) : State :=
  match f.kind.toNat, f.payload with
  | 0, [a, b] => s.takeTrip f.source (a ++ b)
  | 1, [] => s.takeClear f.source
  | 2, [p, g, a, b, c, d, e, h, i, j] => s.takeAnnounce f.source ⟨p, g, a ++ b, c ++ d, e ++ h, i ++ j⟩
  | 3, [t, a, b] => s.takeInquiry f.source t (a ++ b)
  | 4, _ => s.refreshPeer f.source.toNat
  | 5, [t, a, b] => s.takeCollect f.source t (a ++ b)
  | _, _ => s

/-! ## The commands -/

/-- FRAME_BAD_CHECK: R100. -/
def execFrameBadCheck (s : State) : Host.Outcome State Fault Refusal := .next (s.endFrame false true id)

/-- FRAME_END_FIELD_ERROR: R100. Its check was good, so it is acknowledged, and it is discarded at its end. -/
def execFrameEndFieldError (s : State) : Host.Outcome State Fault Refusal := .next (s.endFrame true false id)

/-- CONFLICT: R108, the first line of R101. -/
def execConflict (s : State) : Host.Outcome State Fault Refusal := .next (s.endFrame true true State.takeConflict)

/-- FRAME_DISCARDED: R101. -/
def execFrameDiscarded (kind : BitVec 3) (source : Address) (payload : Checked (List Byte)) (s : State) :
    Host.Outcome State Fault Refusal :=
  let f : Frame := ⟨kind, source, payload.content, payload.check⟩
  .next (s.receive f (State.handOn f))

/-- TRIP_FRAME: R159, R122. -/
def execTripFrame (source : Address) (causeSet : Checked Half) (s : State) : Host.Outcome State Fault Refusal :=
  .next (s.receive ⟨0, source, halfBytes causeSet.content, causeSet.check⟩ (State.takeTrip source causeSet.content))

/-- CLEAR_FRAME: R160, R122. -/
def execClearFrame (source : Checked Address) (s : State) : Host.Outcome State Fault Refusal :=
  .next (s.receive ⟨1, source.content, [], source.check⟩ (State.takeClear source.content))

/-- ANNOUNCE_FRAME: R121, R123, R161. -/
def execAnnounceFrame (source : Address) (payload : Checked AnnouncePayload) (s : State) :
    Host.Outcome State Fault Refusal :=
  .next (s.receive ⟨2, source, announcePayloadBytes payload.content, payload.check⟩
    (State.takeAnnounce source payload.content))

/-- INQUIRY: R176, R122. -/
def execInquiry (source : Address) (target : Byte) (number : Checked Half) (s : State) :
    Host.Outcome State Fault Refusal :=
  .next (s.receive ⟨3, source, requestBytes target number.content, number.check⟩
    (State.takeInquiry source target number.content))

/-- COLLECT: R179, R122. -/
def execCollect (source : Address) (target : Byte) (number : Checked Half) (s : State) :
    Host.Outcome State Fault Refusal :=
  .next (s.receive ⟨5, source, requestBytes target number.content, number.check⟩
    (State.takeCollect source target number.content))

/-- REPORT_FRAME: R122; a payload of a length no REPORT has is discarded (R101). -/
def execReportFrame (source : Address) (payload : Checked (List Byte)) (s : State) :
    Host.Outcome State Fault Refusal :=
  .next (s.receive ⟨4, source, payload.content, payload.check⟩ (State.refreshPeer source.toNat))

end Sys2Proof.Machine
end

