-- ==== Sys2Proof/Machine/Loader.lean ====
section
/-!
DEFINITION. The start-up loader (chapter 11) and the two resets: the memory read attempts, the judgement of the image,
release and refusal.
-/

namespace Sys2Proof.Machine

open Sys2Proof

/-! ## The image (section 11.3) -/

def poolsAt (image : List Byte) (i : Nat) : Pools Nat := ⟨halfAt image i, halfAt image (i + 2), halfAt image (i + 4)⟩

/-- One sensor group: lo, hi, hold limit. -/
def groupAt (image : List Byte) (i : Nat) : SensorGroup :=
  ⟨signedAt image i, signedAt image (i + 2), byteAt image (i + 4)⟩

/-- The fields of the image, by the layout table. -/
def settingsOf (image : List Byte) : Settings where
  capacity := poolsAt image 0
  allowance := poolsAt image 6
  announcePeriod := byteAt image 12
  settleDepth := byteAt image 13
  staleCount := byteAt image 14
  lapseCount := byteAt image 15
  forgetTime := halfAt image 16
  islandCount := byteAt image 18
  samplePeriod := byteAt image 19
  sensors := ⟨groupAt image 20, groupAt image 25, groupAt image 30, groupAt image 35, groupAt image 40, groupAt image 45⟩
  liquidGrams := halfAt image 50
  vapourGrams := halfAt image 52
  drainTime := byteAt image 54
  recoveryLimit := halfAt image 55
  bleedTime := byteAt image 57
  vPush := halfAt image 58
  lPush := halfAt image 60
  throttleStep := byteAt image 62
  vRec := halfAt image 63
  pRes := halfAt image 65
  pBand := halfAt image 67
  identityRequired := byteAt image 69
  driftThreshold := ⟨halfAt image 70, halfAt image 72, halfAt image 74⟩
  holdTime := byteAt image 76
  leakTolerance := byteAt image 77
  emptyFlow := halfAt image 78
  emptyCount := byteAt image 80
  vapourBand := byteAt image 81
  confirmWait := byteAt image 82
  excessLimit := halfAt image 83
  excessCount := byteAt image 85
  surgeDrop := halfAt image 86
  breakPressure := halfAt image 88
  surgeWindow := byteAt image 90
  saturation := (List.range 11).map (fun i => halfAt image (91 + 2 * i))
  flashMargin := halfAt image 113
  flashCount := byteAt image 115
  maxThrottle := byteAt image 116
  clearTime := halfAt image 117
  driftCount := byteAt image 119
  svRating := halfAt image 120
  rvRating := halfAt image 122
  trimStep := byteAt image 124
  slewLimit := halfAt image 125
  lvTravel := halfAt image 127
  svTravel := halfAt image 129
  rvTravel := halfAt image 131
  demandStep := halfAt image 133
  spotRating := poolsAt image 135
  minGrant := poolsAt image 141
  starveLimit := halfAt image 147

/-! ## The three checks (R184 to R186) -/

/-- R184: the CRC of bytes 0 to 189 against bytes 190 and 191. -/
def crcGood (image : List Byte) : Bool := crcBytes (image.take 190) == halfAt image 190

def within (lo hi n : Nat) : Bool := decide (lo ≤ n) && decide (n ≤ hi)

def poolsAll (f : Pool → Bool) : Bool := f .supply && f .ret && f .header

/-- R185 (4) and the hold limit of one sensor group. -/
def groupGood (low high : Int) (g : SensorGroup) : Bool :=
  decide (g.lo < g.hi) && decide (low ≤ g.lo) && decide (g.hi ≤ high) && within 1 50 g.holdLimit

def sensorsGood (a : Six SensorGroup) : Bool :=
  groupGood 0 6000 a.pCar && groupGood 0 6000 a.pLiq && groupGood (-500) 700 a.tLiq
    && groupGood (-5000) 5000 a.x && groupGood (-5000) 5000 a.y && groupGood (-5000) 5000 a.z

/-- R185, the siding section: bytes 0 to 18. -/
def sidingGood (c : Settings) : Bool :=
  poolsAll (fun p => decide (c.allowance.get p ≤ c.capacity.get p))
    && within 2 20 c.announcePeriod && within 2 4 c.settleDepth && within 2 6 c.staleCount
    && within (c.staleCount + 1) 16 c.lapseCount && within 30 3600 c.forgetTime && within 2 8 c.islandCount

/-- R185, the settings of the input unit and of the sequence controller: bytes 19 to 69. -/
def sequenceGood (c : Settings) : Bool :=
  (c.samplePeriod == 50 || c.samplePeriod == 100 || c.samplePeriod == 200) && sensorsGood c.sensors
    && within 1 5000 c.liquidGrams && within 1 5000 c.vapourGrams && within 5 120 c.drainTime
    && within 60 3600 c.recoveryLimit && within 5 120 c.bleedTime && within 5 25 c.throttleStep
    && within 0 6000 c.pRes && within 1 6000 c.pBand && within 0 1 c.identityRequired

/-- R185, the settings of the check unit and of the detector unit: bytes 70 to 119. -/
def detectorsGood (c : Settings) : Bool :=
  within 1 2000 c.driftThreshold.x && within 1 2000 c.driftThreshold.y && within 1 2000 c.driftThreshold.z
    && within 10 120 c.holdTime && within 1 200 c.leakTolerance && within 1 65535 c.emptyFlow
    && within 5 200 c.emptyCount && within 5 200 c.vapourBand && within 0 100 c.confirmWait
    && within 1 65535 c.excessLimit && within 2 50 c.excessCount && within 1 2000 c.surgeDrop
    && within 1 6000 c.breakPressure && within 1 50 c.surgeWindow && c.saturation.all (within 0 6000)
    && within 0 1000 c.flashMargin && within 3 100 c.flashCount && within 1 4 c.maxThrottle
    && within 5 600 c.clearTime && within 2 20 c.driftCount

/-- R185, the settings of the valve driver, the line controller and the share unit: bytes 120 to 148. -/
def drivesGood (c : Settings) : Bool :=
  within 1 65535 c.svRating && within 1 65535 c.rvRating && within 5 100 c.trimStep && within 1 1000 c.slewLimit
    && within 10 300 c.lvTravel && within 10 300 c.svTravel && within 10 300 c.rvTravel
    && within 10 5000 c.demandStep && within 50 6000 c.starveLimit
    && poolsAll (fun p => decide (c.capacity.get p = 0) || decide (0 < c.spotRating.get p))

/-- R185 (5): bytes 149 to 189 are 00h. -/
def fillGood (image : List Byte) : Bool := ((image.drop 149).take 41).all (fun b => b == 0#8)

/-- R185: every field and every condition between fields. -/
def rangesGood (image : List Byte) : Bool :=
  sidingGood (settingsOf image) && sequenceGood (settingsOf image) && detectorsGood (settingsOf image)
    && drivesGood (settingsOf image) && fillGood image

/-- R186: no point is lower than the point before it. -/
def rising : List Nat → Bool
  | a :: b :: rest => decide (a ≤ b) && rising (b :: rest)
  | _ => true

/-- R184: the loader cause of the first failing check, or none for a valid image. -/
def judgeImage (image : List Byte) : Option Code :=
  if !crcGood image then some .lc
  else if !rangesGood image then some .lr
  else if !rising (settingsOf image).saturation then some .lt
  else none

/-! ## Release and refusal (R188) -/

/-- R188 (2): the image is refused with its loader cause; the phase stays "OFFLINE". -/
def State.refuseImage (cause : Code) (s : State) : State :=
  s.onLoader (fun l => { l with state := .refused, cause := some cause, port := .quiet })

/-- R118, R112: the line controller at the release: "LISTEN", line idle no, and the first ANNOUNCE in the list. -/
def LineController.start (l : LineController) : LineController :=
  { l with state := .listen, track := .lost }.queueAnnounce

/-- R96: the travel timers of LV, SV and RV start from 0 with each valve in "CLOSING". -/
def ValveDriver.start (v : ValveDriver) : ValveDriver :=
  { v with lv := ⟨.closing, some 0⟩, sv := ⟨.closing, some 0⟩, rv := ⟨.closing, some 0⟩ }

/-- R152: S slots of 0 in each ring (DEDUCED, assumption 6). -/
def ShareUnit.start (depth : Nat) (u : ShareUnit) : ShareUnit :=
  { u with rings := Pools.of (fun _ => List.replicate depth 0) }

/-- R188 (1), R20: the image's fields are in use, and the part is released into "IDLE". -/
def State.release (c : Settings) (signature : Nat) (s : State) : State :=
  ((((s.onLoader (fun l => { l with
      state := .released, inUse := some c, signature := some signature, port := .quiet })).onInput
      (fun i => { i with receiver := .waiting })).onShare (ShareUnit.start c.settleDepth)).enterIdle.onValve
      ValveDriver.start).onLine LineController.start

/-- R187: the siding signature is the CRC of bytes 0 to 18. -/
def signatureOf (image : List Byte) : Nat := crcBytes (image.take 19)

/-- A read attempt is in progress (R182). -/
def State.attempting (s : State) : Bool :=
  s.resetting.isNone && s.loader.state == .reading && s.loader.port == .attempt

/-- R184, R188: the judgement of a completed read. -/
def State.judge (image : List Byte) (s : State) : State :=
  match judgeImage image with
  | some cause => s.refuseImage cause
  | none => s.release (settingsOf image) (signatureOf image)

/-- IMAGE_READ_COMPLETE: R184 to R188. -/
def execImageReadComplete (image : Vector Byte 192) (s : State) : Host.Outcome State Fault Refusal :=
  .next (if s.attempting then s.judge image.toList else s)

/-! ## Read attempts (R182) -/

/-- The bytes the loader sends in one attempt, each to be acknowledged: the select byte with write direction, the word
address, and after the repeated start the select byte with read direction. -/
def portByte : PortByte → Byte
  | .selectWrite => 0xA0#8
  | .addressHigh => 0x00#8
  | .addressLow => 0x00#8
  | .selectRead => 0xA1#8

/-- MEMORY_ATTEMPT_FAILED: R182. Any of the four bytes unacknowledged ends the attempt; the third failure refuses with
"LM", and before it the pause begins. The count is of failed attempts (DEDUCED, assumption 20). -/
def execMemoryAttemptFailed (_byte : PortByte) (s : State) : Host.Outcome State Fault Refusal :=
  .next
    (if s.attempting then
      let t := s.onLoader (fun l => { l with attempts := l.attempts + 1 })
      if t.loader.attempts < 3 then t.onLoader (fun l => { l with port := .pause }) else t.refuseImage .lm
    else s)

/-- MEMORY_RETRY_PAUSE_EXPIRY: R182, the next attempt begins. -/
def execMemoryRetryPauseExpiry (s : State) : Host.Outcome State Fault Refusal :=
  .next (s.onLoader (fun l => if l.port = .pause then { l with port := .attempt } else l))

/-! ## Resets (R180, R181, R189) -/

/-- POR: R181. Every block at its value after POR; what waits in the queue goes on waiting. -/
def execPor (s : State) : Host.Outcome State Fault Refusal := .next { State.reset with pending := s.pending }

/-- R180: the ticket unit at an RSTN: the open ticket closes into the store with end reason "RESET". -/
def TicketUnit.rstn (throttle : Nat) (u : TicketUnit) : TicketUnit :=
  { u.closeTicket .reset throttle with meterMarker := false, series := none }

/-- RSTN: R180, and every other block at its value after RSTN. A POR in progress goes on as a POR (DEDUCED,
assumption 7). -/
def execRstn (s : State) : Host.Outcome State Fault Refusal :=
  .next
    { State.reset with
      resetting := if s.resetting = some .por then some .por else some .rstn
      ticket := s.ticket.rstn s.det.throttle
      pending := s.pending }

/-- RESET_END: R182, R183. The straps are sampled and the first attempt begins. -/
def execResetEnd (straps : BitVec 4) (s : State) : Host.Outcome State Fault Refusal :=
  .next
    (if s.resetting.isSome then
      { s with
        resetting := none
        loader := { s.loader with ownAddress := straps.toNat + 1, port := .attempt } }
    else s)

end Sys2Proof.Machine
end

