-- ==== Sys2Proof/Machine/Detector.lean ====
section
/-!
DEFINITION. The detector unit (chapter 4): the five detectors at a sample event, the results they hand on, and the
expiries of the confirm and clear timers. At a sample event each detector whose phase condition holds judges, and its
results are taken afterwards (R59, R79; DEDUCED, assumption 13).
-/

namespace Sys2Proof.Machine

open Sys2Proof

/-! ## Liquid-out (R60 to R65) -/

/-- R60: the liquid-out detector is suspended. -/
def State.liquidSuspended (s : State) : Bool :=
  s.share.grant.supply == 0 || s.share.grant.header == 0 || s.valve.trim == 1000

/-- R60, R63: the detection begins again from nothing. -/
def DetectorUnit.liquidAgain (d : DetectorUnit) : DetectorUnit :=
  { d with stage := .counting, lowCount := 0, confirmTimer := none }

/-- R62: the pressures are close. -/
def State.vapourThrough (s : State) : Bool := decide ((s.pCar - s.pLiq).natAbs ≤ s.cfg.vapourBand)

/-- R60 to R63: the detector's state after a sample event in "PUSH". -/
def State.liquidJudge (s : State) (d : DetectorUnit) : DetectorUnit :=
  if s.liquidSuspended then d.liquidAgain
  else if s.cfg.emptyFlow ≤ s.input.flow then d.liquidAgain
  else if d.stage = .waiting then d
  else if d.lowCount + 1 < s.cfg.emptyCount then { d with lowCount := d.lowCount + 1 }
  else if !s.vapourThrough then { d with lowCount := 0 }
  else if s.cfg.confirmWait = 0 then { d with lowCount := s.cfg.emptyCount }
  else { d with lowCount := s.cfg.emptyCount, stage := .waiting, confirmTimer := some 0 }

/-- R62: liquid-out is confirmed at this sample event. -/
def State.liquidConfirms (s : State) (d : DetectorUnit) : Bool :=
  !s.liquidSuspended && decide (s.input.flow < s.cfg.emptyFlow) && d.stage == .counting
    && decide (s.cfg.emptyCount ≤ d.lowCount + 1) && s.vapourThrough && s.cfg.confirmWait == 0

/-- R64, R26: note EMPTY 0 and the report are one act, made only while the phase is "PUSH". -/
def State.confirmLiquidOut (s : State) : State :=
  if s.seq.phase = .push then ((s.note .empty 0).onDet DetectorUnit.liquidAgain).enterDrain else s

/-! ## Excess flow (R66) -/

/-- R66: the count reaches its setting at this sample event. -/
def State.excessReports (s : State) (d : DetectorUnit) : Bool :=
  decide (s.cfg.excessLimit < s.input.flow) && decide (s.cfg.excessCount ≤ d.excessCount + 1)

/-- R66. -/
def State.excessJudge (s : State) (d : DetectorUnit) : DetectorUnit :=
  if s.cfg.excessLimit < s.input.flow ∧ d.excessCount + 1 < s.cfg.excessCount then
    { d with excessCount := d.excessCount + 1 }
  else { d with excessCount := 0 }

/-! ## Surge/break (R68, R69) -/

/-- R68: this sample event is a start. -/
def State.surgeStarts (s : State) (d : DetectorUnit) : Bool :=
  match d.previousPLiq with
  | none => false
  | some p => decide ((s.cfg.surgeDrop : Int) < p - s.pLiq)

/-- R68: a start opens or restarts the window. -/
def State.surgeOpen (s : State) (d : DetectorUnit) : DetectorUnit :=
  if s.surgeStarts d then { d with surge := .window, windowCount := 0 } else d

/-- R69: the end is met in the window. -/
def State.breakReports (s : State) (d : DetectorUnit) : Bool :=
  (s.surgeOpen d).surge == .window && decide (s.pLiq < (s.cfg.breakPressure : Int))

/-- R69: the window after the start judgement. -/
def State.surgeEnd (s : State) (d : DetectorUnit) : DetectorUnit :=
  if d.surge = .window then
    if s.pLiq < (s.cfg.breakPressure : Int) then { d with surge := .armed, windowCount := 0 }
    else if d.windowCount < s.cfg.surgeWindow then { d with windowCount := d.windowCount + 1 }
    else { d with surge := .armed, windowCount := 0 }
  else d

/-- R68, R69: start, end, and the present P_liq as the previous one. -/
def State.surgeJudge (s : State) (d : DetectorUnit) : DetectorUnit :=
  { s.surgeEnd (s.surgeOpen d) with previousPLiq := some s.pLiq }

/-! ## Flashing (R71 to R74) -/

/-- R71: the saturation pressure at a temperature. -/
def saturationAt (table : List Nat) (tLiq : Int) : Nat :=
  if tLiq ≤ -400 then table.getD 0 0
  else if 600 ≤ tLiq then table.getD 10 0
  else
    let u := (tLiq + 400).toNat
    let i := u / 100
    table.getD i 0 + (table.getD (i + 1) 0 - table.getD i 0) * (u - 100 * i) / 100

/-- R72: this sample is flashing. -/
def State.flashing (s : State) : Bool :=
  decide (s.pLiq < ((saturationAt s.cfg.saturation s.tLiq + s.cfg.flashMargin : Nat) : Int))

/-- R72: this sample event is an episode. -/
def State.episode (s : State) (d : DetectorUnit) : Bool :=
  s.flashing && decide (s.cfg.flashCount ≤ d.flashCount + 1)

/-- R72: the flashing count and the clear timer. -/
def State.flashJudge (s : State) (d : DetectorUnit) : DetectorUnit :=
  if s.flashing then
    { d with
      flashCount := if s.cfg.flashCount ≤ d.flashCount + 1 then 0 else d.flashCount + 1
      clearTimer := if 0 < d.throttle then some 0 else none }
  else { d with flashCount := 0 }

/-- R73: the level rises with note THROTTLE, and the clear timer starts from 0. -/
def State.raiseThrottle (s : State) : State :=
  ((s.onDet (fun d => { d with throttle := d.throttle + 1, clearTimer := some 0 })).note
    .throttle (s.det.throttle + 1)).promptOnMove s.demands

/-- R27, R73: the flashing hold request, taken in "PUSH" only. -/
def State.flashingHold (s : State) : State :=
  if s.seq.phase = .push then s.enterHold (some .push) .flashing else s

/-! ## Arm drift (R76, R77) -/

/-- R76: the phases in which the drift detector runs while a baseline is held. -/
def State.driftPhase (s : State) : Bool :=
  match s.seq.phase with
  | .check => s.check.step == .holdTest
  | .push => true
  | .drain => true
  | .recover => true
  | .close => true
  | .hold => true
  | .tripped => s.ticketOpen
  | _ => false

/-- R77: this sample is out. -/
def outOfPlace (threshold : Axes Nat) (baseline present : Axes Int) : Bool :=
  axesAny (axesZip (fun (t : Nat) (d : Int) => decide (t < d.natAbs)) threshold
    (axesZip (fun a b => a - b) present baseline))

/-- R77: the drift count after a sample event at which the detector runs against this baseline. -/
def State.driftNext (s : State) (b : Axes Int) : Nat :=
  if outOfPlace s.cfg.driftThreshold b s.axes then min s.cfg.driftCount (s.det.driftCount + 1) else 0

/-- R77: DRIFT is reported at each out sample at which the count equals its setting. -/
def State.driftReports (s : State) (b : Axes Int) : Bool :=
  outOfPlace s.cfg.driftThreshold b s.axes && decide (s.cfg.driftCount ≤ s.det.driftCount + 1)

/-! ## The unit at a sample event (R59) -/

/-- Liquid-out, excess flow, surge/break and flashing in the phase in which the unit acts. -/
def State.transferJudge (s : State) (d : DetectorUnit) : DetectorUnit :=
  match s.seq.phase with
  | .push => s.flashJudge (s.surgeJudge (s.excessJudge (s.liquidJudge d)))
  | .drain => s.surgeJudge (s.excessJudge d)
  | _ => d

/-- The results of those four detectors, judged on the unit's state before the event. -/
def State.transferReports (s : State) : List SampleReport :=
  match s.seq.phase with
  | .push =>
    (if s.liquidConfirms s.det then [.confirm] else [])
      ++ (if s.excessReports s.det then [.cause .excess] else [])
      ++ (if s.breakReports s.det then [.cause .brk] else [])
      ++ (if s.episode s.det then
            (if s.det.throttle < s.cfg.maxThrottle then [.throttle] else [.hold])
          else [])
  | .drain =>
    (if s.excessReports s.det then [.cause .excess] else [])
      ++ (if s.breakReports s.det then [.cause .brk] else [])
  | _ => []

/-- R76, R50: the baseline the drift detector measures against at this sample event, if it runs. -/
def State.driftBaseline (fresh : Bool) (s : State) : Option (Axes Int) :=
  if s.driftPhase && !(fresh && s.seq.phase == .check) then s.check.baseline else none

/-- R59: the detector unit at a sample event, with its results. `fresh` says that the baseline was completed at this
same sample event, which the drift detector does not measure (R50). -/
def State.detectorWork (fresh : Bool) (s : State) : State × List SampleReport :=
  match s.driftBaseline fresh with
  | none => (s.onDet s.transferJudge, s.transferReports)
  | some b =>
    (s.onDet (fun d => { s.transferJudge d with driftCount := s.driftNext b }),
      s.transferReports ++ (if s.driftReports b then [.cause .drift] else []))

/-! ## The timers of the unit -/

/-- CONFIRM_TIMER_EXPIRY: R63, R64. -/
def execConfirmTimerExpiry (s : State) : Host.Outcome State Fault Refusal :=
  .next (if s.det.stage = .waiting ∧ reached s.cfg.confirmWait s.det.confirmTimer then s.confirmLiquidOut else s)

/-- R74: the level falls by one with note RESTORE; the timer starts again above level 0 and is idle at 0. -/
def State.lowerThrottle (s : State) : State :=
  ((s.onDet (fun d => { d with
      throttle := d.throttle - 1
      clearTimer := if 1 < d.throttle then some 0 else none })).note .restore (s.det.throttle - 1)).promptOnMove s.demands

/-- CLEAR_TIMER_EXPIRY: R74. A flashing sample taken first restarts the timer, and the expiry does not come. -/
def execClearTimerExpiry (s : State) : Host.Outcome State Fault Refusal :=
  .next
    (if s.seq.phase = .push ∧ reached (10 * s.cfg.clearTime) s.det.clearTimer ∧ 0 < s.det.throttle then s.lowerThrottle
     else s)

end Sys2Proof.Machine
end

