-- ==== Sys2Proof/Machine/Check.lean ====
section
/-!
DEFINITION. The check unit (chapter 3): the start of the check, its work at a sample event, and the end of the hold
test.
-/

namespace Sys2Proof.Machine

open Sys2Proof

/-- R46: a new check begins, with no memory of an earlier one. -/
def State.beginCheck (s : State) : State :=
  (s.onCheck (fun _ => { CheckUnit.reset with step := .baseline })).onDet (fun d => { d with driftCount := 0 })

/-- R24: a failed check returns to "IDLE" and shows its code. -/
def State.failCheck (code : Code) (s : State) : State := (s.dropCheck.enterIdle).setTempCode code

/-- R48: the smallest axis value so far. -/
def lowerTo (v : Int) : Option Int → Option Int
  | none => some v
  | some m => some (min m v)

/-- R48: the largest axis value so far. -/
def raiseTo (v : Int) : Option Int → Option Int
  | none => some v
  | some m => some (max m v)

/-- R48: maximum less minimum, 0 while none is taken. -/
def spreadOf (lo hi : Option Int) : Int := hi.getD 0 - lo.getD 0

/-- R48: one sample event into the baseline. -/
def CheckUnit.takeSample (v : Axes Int) (c : CheckUnit) : CheckUnit :=
  { c with
    count := c.count + 1
    sums := axesZip (fun a b => a + b) c.sums v
    mins := axesZip lowerTo v c.mins
    maxs := axesZip raiseTo v c.maxs }

/-- R48: any axis spread is greater than its drift threshold. -/
def CheckUnit.unsteady (threshold : Axes Nat) (c : CheckUnit) : Bool :=
  axesAny (axesZip (fun (t : Nat) (w : Int) => decide ((t : Int) < w)) threshold (axesZip spreadOf c.mins c.maxs))

/-- R50: the baseline is complete: each sum divided by 16, truncated toward zero; sums and extremes are discarded, the
start pressures are recorded, and the hold test begins. -/
def CheckUnit.complete (p : Pressures) (c : CheckUnit) : CheckUnit :=
  { c with
    step := .holdTest
    baseline := some ⟨c.sums.x.tdiv 16, c.sums.y.tdiv 16, c.sums.z.tdiv 16⟩
    sums := ⟨0, 0, 0⟩
    mins := ⟨none, none, none⟩
    maxs := ⟨none, none, none⟩
    start := some p
    timer := some 0 }

/-- R48, R49, R50: step "BASELINE" at a sample event that R47 lets pass. The flag says that the baseline was completed
here. -/
def State.baselineSample (s : State) : State × Bool :=
  let c := s.check.takeSample s.axes
  if c.unsteady s.cfg.driftThreshold then (s.failCheck .fb, false)
  else if c.count < 16 then (s.onCheck (fun _ => c), false)
  else (s.onCheck (fun _ => c.complete ⟨s.pCar, s.pLiq⟩), true)

/-- R47: ground and both arms are read first. -/
def State.connected (s : State) : Bool := s.groundOk && s.armsCoupled

/-- R47, R48, R51: the check unit at a sample event; its steps run inside phase "CHECK" (00_scope, section 2). -/
def State.checkWork (s : State) : State × Bool :=
  if s.seq.phase ≠ .check ∨ s.check.step = .inactive then (s, false)
  else if !s.connected then (s.failCheck .fa, false)
  else if s.check.step = .baseline then s.baselineSample
  else (s, false)

/-! ## The end of the hold test -/

/-- R51: a fall too large. -/
def fallTooLarge (tolerance : Nat) (start present : Int) : Bool := decide ((tolerance : Int) < start - present)

/-- R51: both pressures accepted. -/
def State.holdTestPasses (s : State) : Bool :=
  match s.check.start with
  | none => false
  | some p =>
    !fallTooLarge s.cfg.leakTolerance p.pCar s.pCar && !fallTooLarge s.cfg.leakTolerance p.pLiq s.pLiq

/-- R169: the number after a ticket number. -/
def nextTicket (n : Nat) : Nat := if 65535 ≤ n then 1 else n + 1

/-- R169: numbers carried by tickets of the store are passed over; the store's length bounds the skips. -/
def freeNumber (store : List Ticket) (n : Nat) : Nat → Nat
  | 0 => n
  | k + 1 => if store.any (fun t => t.number == n) then freeNumber store (nextTicket n) k else n

/-- R169: a ticket opens with a free number, the own address, the uptime and a copy of the identity. -/
def TicketUnit.openTicket (station : Nat) (identity : List Byte) (u : TicketUnit) : TicketUnit :=
  let n := freeNumber u.store u.nextNumber u.store.length
  { u with
    current := some
      { number := n
        station := station
        identity := identity
        openTime := u.uptime
        closeTime := none
        delivered := 0
        recovered := 0
        peak := 0
        finalThrottle := none
        endReason := none
        notes := []
        overflow := false }
    nextNumber := nextTicket n
    meterMarker := false }

/-- R24, R53, R75, R84: the pass: the ticket opens, the throttle level and the trim become 0, the phase becomes
"PUSH"; the baseline is kept. -/
def State.passCheck (s : State) : State :=
  (((((s.onCheck (fun c => { c with step := .inactive, start := none, timer := none })).onTicket
      (TicketUnit.openTicket s.loader.ownAddress s.input.identity)).onDet
      (fun d => { d with throttle := 0, flashCount := 0, clearTimer := none })).onValve
      (fun v => { v with trim := 0 })).onSeq (fun q => { q with stopped := false })).enterPhase .push

/-- CHECK_TIMER_EXPIRY: R51, R52, R53. The expiry comes only in the hold test. -/
def execCheckTimerExpiry (s : State) : Host.Outcome State Fault Refusal :=
  .next
    (if s.seq.phase = .check ∧ s.check.step = .holdTest ∧ reached (10 * s.cfg.holdTime) s.check.timer then
      if s.holdTestPasses then s.passCheck else s.failCheck .fl
    else s)

end Sys2Proof.Machine
end

