-- ==== Sys2Proof/Machine/Input.lean ====
section
/-!
DEFINITION. The input unit (chapter 1): its work at a sample event, the meter pulses, and the car identity line.
-/

namespace Sys2Proof.Machine

open Sys2Proof

/-! ## Sensors (R4) -/

/-- R4: the sensor record after one sample. -/
def sensorStep (g : SensorGroup) (r : Sensor) (counts : BitVec 12) : Sensor :=
  match classifyCounts g counts.toNat with
  | .good v => ⟨.good, v, v, 0⟩
  | .faulted =>
    match r.status with
    | .good => ⟨if g.holdLimit = 1 then .fail else .hold, r.lastGood, r.lastGood, 1⟩
    | .hold => ⟨if g.holdLimit ≤ r.holdCount + 1 then .fail else .hold, r.lastGood, r.lastGood, r.holdCount + 1⟩
    | .fail => ⟨.fail, r.lastGood, r.lastGood, r.holdCount⟩

/-! ## Flow (R7) -/

/-- R7: the window drops its oldest count and takes the new one. -/
def pushWindow (count : Nat) (window : List Nat) : List Nat := window.drop 1 ++ [count]

/-- R7: F in kg/h, clamped to 65535. -/
def flowOf (grams samplePeriod : Nat) (window : List Nat) : Nat :=
  min 65535 (window.sum * grams * 3600 / (8 * samplePeriod))

/-! ## Discrete inputs (R9, R10, R11) -/

/-- The stable state that a raw value gives. -/
def stableOf (raw : Bool) : Stable := if raw then .active else .inactive

/-- R9: one debouncer at one sample event. -/
def debounceStep (d : Debouncer) (raw : Bool) : Debouncer :=
  let run := if d.lastRaw = some raw then min 3 (d.run + 1) else 1
  ⟨if run = 3 then stableOf raw else d.stable, some raw, run⟩

/-- R10: a change from "INACTIVE" to "ACTIVE". -/
def isPress (before after : Debouncer) : Bool := before.stable == .inactive && after.stable == .active

/-- R11: 3000 / T_s. -/
def longPressLimit (c : Settings) : Nat := 3000 / c.samplePeriod

/-- R11: long-press count and holding after a sample event at which RESET stands as `after`, with its press or not. -/
def longPressStep (limit : Nat) (press : Bool) (after : Debouncer) (count : Nat) (held : Bool) : Nat × Bool :=
  if press then (0, true)
  else if after.isActive then (if held then (min limit (count + 1), true) else (count, false))
  else (0, false)

/-- R11: the long press is reported at the sample event at which the count reaches its limit. -/
def isLongPress (limit : Nat) (press : Bool) (after : Debouncer) (count : Nat) (held : Bool) : Bool :=
  !press && after.isActive && held && count < limit && count + 1 == limit

/-- What the input unit reports of the panel at one sample event (R10, R11). -/
structure PanelReports where
  start : Bool
  stop : Bool
  reset : Bool
  longPress : Bool
deriving DecidableEq, Repr

/-- R10, R11: the presses that the debouncers' step makes. -/
def panelReports (c : Settings) (before : InputUnit) (after : Twelve Debouncer) : PanelReports :=
  let press := isPress before.debounce.reset after.reset
  { start := isPress before.debounce.start after.start
    stop := isPress before.debounce.stop after.stop
    reset := press
    longPress := isLongPress (longPressLimit c) press after.reset before.longPress before.resetHeld }

/-- R1, items (1) to (3): the input unit at a sample event. -/
def InputUnit.sample (c : Settings) (counts : Six (BitVec 12)) (levels : Twelve Bool) (i : InputUnit) : InputUnit :=
  let window := pushWindow i.liquidPulses i.window
  let debounce := twelveZip debounceStep i.debounce levels
  let hold := longPressStep (longPressLimit c) (isPress i.debounce.reset debounce.reset) debounce.reset
    i.longPress i.resetHeld
  { i with
    sensors := sixZip sensorStep c.sensors i.sensors counts
    liquidPulses := 0
    vapourPulses := 0
    liquidSample := i.liquidPulses
    vapourSample := i.vapourPulses
    window := window
    flow := flowOf c.liquidGrams c.samplePeriod window
    debounce := debounce
    longPress := hold.1
    resetHeld := hold.2 }

/-! ## Pulses (R6) -/

/-- R6: an edge is counted into the current period, up to 1023. -/
def InputUnit.pulse (m : Meter) (i : InputUnit) : InputUnit :=
  match m with
  | .liquid => { i with liquidPulses := min 1023 (i.liquidPulses + 1) }
  | .vapour => { i with vapourPulses := min 1023 (i.vapourPulses + 1) }

/-- PULSE_EDGE: R6. In "OFFLINE" pulses are not counted. -/
def execPulseEdge (meter : Meter) (s : State) : Host.Outcome State Fault Refusal :=
  .next (if s.running then s.onInput (InputUnit.pulse meter) else s)

/-! ## Car identity (R12, R13, R14) -/

/-- TAGIN_IDLE_WAIT_DONE: R12, the receiver begins to accept start bits. -/
def execTaginIdleWaitDone (s : State) : Host.Outcome State Fault Refusal :=
  .next (s.onInput (fun i => if i.receiver = .waiting then { i with receiver := .accepting } else i))

/-- R13, the table, and R14: one character arrival. -/
def InputUnit.character (code : Byte) (framingGood : Bool) (i : InputUnit) : InputUnit :=
  if !framingGood then { i with discard := true }
  else if isPrintable code then
    if i.discard then i
    else if i.buffer.length < 12 then { i with buffer := i.buffer ++ [code] }
    else { i with discard := true }
  else if code = 0x0A#8 then i
  else if code = 0x0D#8 then
    if i.discard then { i with buffer := [], discard := false }
    else if i.buffer = [] then i
    else { i with identity := i.buffer, buffer := [] }
  else { i with discard := true }

/-- CHARACTER_ARRIVAL: R13. A character reaches the line assembly only from an accepting receiver (R12). -/
def execCharacterArrival (code : Byte) (framingGood : Bool) (s : State) : Host.Outcome State Fault Refusal :=
  .next (s.onInput (fun i => if i.receiver = .accepting then i.character code framingGood else i))

end Sys2Proof.Machine
end

