-- ==== Sys2Proof/Machine/Panel.lean ====
section
/-!
DEFINITION. The panel (chapter 2, section 2.3; chapter 9, section 9.6): START, STOP, RESET and the RESET long press, in
the phase in which each is taken.
-/

namespace Sys2Proof.Machine

open Sys2Proof

/-! ## START (R22, R23, R34) -/

/-- R22: the code of the first failing condition, or none where all seven hold. -/
def State.startRefusal (s : State) : Option Code :=
  if !s.armsCoupled then some .na
  else if !s.groundOk then some .ng
  else if !s.trip.list.isEmpty || !s.trip.latched.isEmpty || s.line.clearWaits then some .nt
  else if s.peers.any Peer.barsStart then some .ns
  else if 4 ≤ s.ticket.store.length then some .nf
  else if s.sensorFailed then some .nc
  else if s.cfg.identityRequired = 1 ∧ s.input.identity = [] then some .ni
  else none

/-- R22, R23: START in "IDLE". -/
def State.startInIdle (s : State) : State :=
  match s.startRefusal with
  | some code => s.setTempCode code
  | none => s.beginCheck.enterPhase .check

/-- R34: the held phase begins afresh. -/
def State.resumePhase (h : HeldPhase) (s : State) : State :=
  match h with
  | .push => s.enterPhase .push
  | .drain => s.enterDrain
  | .recover => s.enterRecover
  | .close => s.enterClose

/-- R34: START in "HOLD" resumes the held phase with note RESUME. -/
def State.startInHold (s : State) : State :=
  match s.seq.held with
  | none => s
  | some h =>
    ((s.note .resume h.phase.code).onSeq (fun q => { q with held := none, reason := none })).resumePhase h

/-! ## STOP (R25, R27, R30, R35) -/

/-- R25, R55: STOP in "CHECK" abandons the check. -/
def State.stopInCheck (s : State) : State := s.dropCheck.enterIdle

/-- R35: STOP in "HOLD". -/
def State.stopInHold (s : State) : State :=
  (s.onSeq (fun q => { q with stopped := true, held := none, reason := none })).enterClose

/-! ## RESET (R39, R163 to R165) -/

/-- R163: whether a latched cause clears at this RESET. -/
def State.clears (s : State) (c : Cause) : Bool :=
  match c with
  | .esd => !s.input.debounce.esd.isActive
  | .gas => !s.input.debounce.gasAlarm.isActive
  | .brk => true
  | .drift => true
  | .excess => true
  | .uncouple => true
  | .valve => s.valve.allClosed
  | .sensor => !s.sensorFailed
  | .ground => s.groundOk
  | .conflict => false
  | .unknown => false

/-- R163: the oldest remote entry. -/
def State.firstRemote (s : State) : Option TripEntry :=
  s.trip.list.find? (fun e => e.originator != s.loader.ownAddress)

/-- R163: the first remaining cause, or none where the press is taken. -/
def State.remaining (s : State) : Option Cause :=
  match s.trip.latched.find? (fun c => !s.clears c) with
  | some c => some c
  | none => s.firstRemote.map (fun e => e.causes.first)

/-- The own entry is in the trip list. -/
def State.ownEntry (s : State) : Bool := s.trip.list.any (fun e => e.originator == s.loader.ownAddress)

/-- R164: a taken RESET inside the trip unit, with the CLEAR that an own entry queues. -/
def State.clearTrips (s : State) : State :=
  if s.ownEntry then
    (s.onTrip (fun t => { latched := [], outstanding := false, list := removeEntry s.loader.ownAddress t.list })).onLine
      LineController.queueClear
  else s.onTrip (fun t => { t with latched := [] })

/-- R39: where a taken RESET leads. -/
def State.leaveTripped (s : State) : State :=
  if s.ticketOpen then s.enterHold s.seq.held .trip else s.enterIdle

/-- R39, R163: a RESET press in "TRIPPED". -/
def State.resetPress (s : State) : State :=
  if s.ticketOpen && !s.armsCoupled then s.setTempCode .e9
  else
    match s.remaining with
    | some c => s.setTempCode (causeCode c)
    | none => s.clearTrips.leaveTripped

/-- R165, R40: a RESET long press in "TRIPPED" removes the remote entries of silent originators. -/
def State.longPress (s : State) : State :=
  s.onTrip (fun t => { t with
    list := t.list.filter (fun e => e.originator == s.loader.ownAddress || !originatorSilent s.peers e.originator) })

/-! ## The table of R21 -/

/-- R21: the presses of one sample event in the phase that finds them; STOP is taken before a START reported with it.
The flag says that a START was taken into "CHECK" here (R46). -/
def State.panelWork (p : PanelReports) (s : State) : State × Bool :=
  match s.seq.phase with
  | .idle =>
    if p.start && !p.stop then (s.startInIdle, s.startRefusal.isNone) else (s, false)
  | .check => (if p.stop then s.stopInCheck else s, false)
  | .push => (if p.stop then s.enterHold (some .push) .operator else s, false)
  | .recover => (if p.stop then s.enterHold (some .recover) .operator else s, false)
  | .hold => (if p.stop then s.stopInHold else if p.start then s.startInHold else s, false)
  | .tripped =>
    (if p.reset then s.resetPress else if p.longPress then s.longPress else s, false)
  | .offline => (s, false)
  | .drain => (s, false)
  | .close => (s, false)

end Sys2Proof.Machine
end

