-- ==== Sys2Proof/Machine/Valves.lean ====
section
/-!
DEFINITION. The valve driver's work at a sample event (chapter 5): trim, targets, slew and supervision, and the
expiries of its travel timers.
-/

namespace Sys2Proof.Machine

open Sys2Proof

/-! ## Trim, targets and slew (R84, R87) -/

/-- R84: the trim after one sample event in "PUSH". -/
def trimStep (c : Settings) (flow headerGrant trim : Nat) : Nat :=
  if headerGrant < flow then min 1000 (trim + c.trimStep)
  else if flow < headerGrant - headerGrant / 8 then trim - c.trimStep
  else trim

/-- R87: an opening rises by at most the slew limit, and falls to its target at once. -/
def slewTo (limit target opening : Nat) : Nat :=
  if opening < target then min target (opening + limit) else target

/-- R82 (1). -/
def State.stepTrim (s : State) : State :=
  if s.seq.phase = .push then
    s.onValve (fun v => { v with trim := trimStep s.cfg s.input.flow s.share.grant.header v.trim })
  else s

/-- R82 (2), (3): the targets from the phase, grants and trim in force, and the openings toward them. -/
def ValveDriver.drive (limit sv rv : Nat) (v : ValveDriver) : ValveDriver :=
  ValveDriver.setOpenings (slewTo limit sv v.svOpening) (slewTo limit rv v.rvOpening)
    { v with svTarget := sv, rvTarget := rv }

def State.moveValves (s : State) : State :=
  s.onValve (ValveDriver.drive s.cfg.slewLimit s.svWanted s.rvWanted)

/-! ## Supervision (R88 to R91) -/

/-- R88, R91: a valve without an open switch at a supervised sample event. -/
def superviseClosed (closedSwitch : Bool) (c : Channel) : Channel :=
  match c.state with
  | .closing => if closedSwitch then ⟨.closed, none⟩ else c
  | .closeOverdue => if closedSwitch then ⟨.closed, none⟩ else c
  | .closed => if closedSwitch then c else ⟨.closeOverdue, c.timer⟩
  | _ => c

/-- R88, R89, R91: LV at a supervised sample event. With both its switches "ACTIVE" a valve in "CLOSING", "OPENING" or an
overdue state is confirmed by R88 or R89, and VALVE is reported besides: the "unchanged" of R91 is read as what that
line itself does (DEDUCED, assumption 21). -/
def superviseLv (openSwitch closedSwitch : Bool) (c : Channel) : Channel :=
  match c.state with
  | .opening => if openSwitch then ⟨.opened, none⟩ else c
  | .openOverdue => if openSwitch then ⟨.opened, none⟩ else c
  | .opened => if openSwitch then c else ⟨.openOverdue, c.timer⟩
  | _ => superviseClosed closedSwitch c

/-- R91: the state changes into an overdue state at this sample event. -/
def becameOverdue (before after : Channel) : Bool :=
  (before.state == .closed && after.state == .closeOverdue) || (before.state == .opened && after.state == .openOverdue)

/-- R82 (4): LV, SV and RV against the switch states of this sample event. -/
def ValveDriver.supervise (d : Twelve Debouncer) (v : ValveDriver) : ValveDriver :=
  { v with
    lv := superviseLv d.lvOpen.isActive d.lvClosed.isActive v.lv
    sv := superviseClosed d.svClosed.isActive v.sv
    rv := superviseClosed d.rvClosed.isActive v.rv }

/-- R91: VALVE is reported at this sample event. -/
def ValveDriver.faulty (d : Twelve Debouncer) (v : ValveDriver) : Bool :=
  becameOverdue v.lv (v.supervise d).lv || becameOverdue v.sv (v.supervise d).sv
    || becameOverdue v.rv (v.supervise d).rv || (d.lvOpen.isActive && d.lvClosed.isActive)

/-- R94 (1): LV becomes "CLOSED" at this sample event. -/
def ValveDriver.lvConfirms (d : Twelve Debouncer) (v : ValveDriver) : Bool :=
  v.lv.state != .closed && (v.supervise d).lv.state == .closed

/-- What supervision hands on (R94): VALVE, "LV confirmed closed", and the all-closed indication. -/
def State.superviseReports (s : State) : List SampleReport :=
  (if s.valve.faulty s.input.debounce then [.cause .valve] else [])
    ++ (if s.valve.lvConfirms s.input.debounce then [.lvClosed] else [])
    ++ [.allClosed]

/-- R82 (4), with its results. -/
def State.superviseValves (s : State) : State × List SampleReport :=
  (s.onValve (ValveDriver.supervise s.input.debounce), s.superviseReports)

/-- R82, R93: the valve driver at a sample event; in "TRIPPED" step (4) alone. -/
def State.valveWork (s : State) : State × List SampleReport :=
  if s.seq.phase = .offline then (s, [])
  else if s.seq.phase = .tripped then s.superviseValves
  else s.stepTrim.moveValves.superviseValves

/-- R94, R28 (2): the sequence controller takes "LV confirmed closed" in drain step "SHUTTING" alone. -/
def State.lvConfirmedClosed (s : State) : State :=
  if s.seq.phase = .drain ∧ s.seq.drainStep = .shutting then s.endDrain else s

/-! ## Travel timers (R90) -/

def ValveDriver.channel (v : ValveDriver) : Valve → Channel
  | .lv => v.lv
  | .sv => v.sv
  | .rv => v.rv

def ValveDriver.setChannel (v : ValveDriver) (c : Channel) : Valve → ValveDriver
  | .lv => { v with lv := c }
  | .sv => { v with sv := c }
  | .rv => { v with rv := c }

/-- R90: the valve becomes overdue and VALVE is reported. -/
def State.travelExpires (valve : Valve) (s : State) : State :=
  match (s.valve.channel valve).state with
  | .closing => (s.onValve (fun v => v.setChannel ⟨.closeOverdue, none⟩ valve)).latch .valve
  | .opening => (s.onValve (fun v => v.setChannel ⟨.openOverdue, none⟩ valve)).latch .valve
  | _ => s

/-- The travel time of a valve (section 5.1). -/
def travelTime (c : Settings) : Valve → Nat
  | .lv => c.lvTravel
  | .sv => c.svTravel
  | .rv => c.rvTravel

/-- TRAVEL_TIMER_EXPIRY: R90. -/
def execTravelTimerExpiry (valve : Valve) (s : State) : Host.Outcome State Fault Refusal :=
  .next (if reached (travelTime s.cfg valve) (s.valve.channel valve).timer then s.travelExpires valve else s)

end Sys2Proof.Machine
end

