-- ==== Sys2Proof/Machine/Sample.lean ====
section
/-!
DEFINITION. The sample event (R1): the input unit produces its values first, then every block does its work. What falls
together within the event is taken in the order the command carries, since the manual lets either be first (R5, R25,
R59, R60, R79, R82, R94, R97, R151, R154, R166, R171; DESIGN CHOICE, assumption 1).
-/

namespace Sys2Proof.Machine

open Sys2Proof

/-- The turns of a sample event in the order used for those the command does not name. -/
def allTurns : List SampleTurn :=
  [.take (.cause .sensor), .take (.cause .esd), .take (.cause .gas), .take (.cause .ground), .take (.cause .uncouple),
   .take .confirm, .take (.cause .excess), .take (.cause .brk), .take .throttle, .take .hold, .take (.cause .drift),
   .take (.cause .valve), .take .lvClosed, .take .allClosed,
   .work .sensor, .work .panel, .work .supervision, .work .arms, .work .residual, .work .check, .work .share,
   .work .detectors, .work .valves, .work .trips, .work .tickets]

/-- The first occurrence of each turn. -/
def firstOnes : List SampleTurn → List SampleTurn → List SampleTurn
  | _, [] => []
  | seen, t :: rest => if seen.contains t then firstOnes seen rest else t :: firstOnes (t :: seen) rest

/-- The turns of the event: those the command names, then the others. Every order of `allTurns` is the value of some
command. -/
def turnsOf (order : List SampleTurn) : List SampleTurn :=
  firstOnes [] (order.filter (fun t => allTurns.contains t) ++ allTurns)

/-- What one sample event keeps between its turns: the panel's reports, whether a check began or a baseline was completed
at this event (R46, R50), the reports made and not yet taken, and the report turns that have passed. -/
structure Event where
  panel : PanelReports
  checkBegan : Bool
  baselineDone : Bool
  waiting : List SampleReport
  passed : List SampleReport
deriving DecidableEq, Repr

/-! ## Works of the input unit, the sequence controller and the trip unit -/

/-- R5: the phases in which a sensor in "FAIL" is reported. -/
def State.sensorPhase (s : State) : Bool :=
  match s.seq.phase with
  | .check => true
  | .push => true
  | .drain => true
  | .recover => true
  | .close => true
  | .hold => true
  | .tripped => s.ticketOpen
  | _ => false

/-- R5. -/
def State.sensorReports (s : State) : List SampleReport :=
  if s.sensorFailed && s.sensorPhase then [.cause .sensor] else []

/-- R36, the table: a lost ground and a lost arm, both where both are lost. -/
def State.lossReports (s : State) : List SampleReport :=
  (if s.groundOk then [] else [.cause .ground]) ++ (if s.armsCoupled then [] else [.cause .uncouple])

/-- R36: the phases in which arms and ground are supervised. -/
def State.supervisionReports (s : State) : List SampleReport :=
  match s.seq.phase with
  | .push => s.lossReports
  | .drain => s.lossReports
  | .recover => s.lossReports
  | .hold => s.lossReports
  | _ => []

/-- R155. -/
def State.tripReports (s : State) : List SampleReport :=
  (if s.input.debounce.esd.isActive then [.cause .esd] else [])
    ++ (if s.input.debounce.gasAlarm.isActive then [.cause .gas] else [])

/-- R29: P_car against P_res in "RECOVER"; at a count of 5 note EMPTY 1 is written and the phase becomes "CLOSE". -/
def State.residualWork (s : State) : State :=
  if s.seq.phase = .recover then
    if s.pCar ≤ (s.cfg.pRes : Int) then
      if s.seq.residual + 1 < 5 then s.onSeq (fun q => { q with residual := q.residual + 1 })
      else ((s.onSeq (fun q => { q with residual := 5 })).note .empty 1).enterClose
    else s.onSeq (fun q => { q with residual := 0 })
  else s

/-- R31 (3), R38: both arms are uncoupled in "RELEASING", or in "TRIPPED" with a ticket open. -/
def State.armsWork (s : State) : State := s.endReleasing.closeUncoupled

/-! ## Turns -/

/-- A report is taken by the block it goes to. -/
def State.takeReport (r : SampleReport) (s : State) : State :=
  match r with
  | .cause c => s.latch c
  | .confirm => s.confirmLiquidOut
  | .throttle => s.raiseThrottle
  | .hold => s.flashingHold
  | .lvClosed => s.lvConfirmedClosed
  | .allClosed => s.endShutting

/-- A block does its work and makes its reports. -/
def doWork (w : SampleWork) (s : State) (e : Event) : State × Event × List SampleReport :=
  match w with
  | .sensor => (s, e, s.sensorReports)
  | .panel => ((s.panelWork e.panel).1, { e with checkBegan := (s.panelWork e.panel).2 }, [])
  | .supervision => (s, e, s.supervisionReports)
  | .arms => (s.armsWork, e, [])
  | .residual => (s.residualWork, e, [])
  | .check => if e.checkBegan then (s, e, []) else (s.checkWork.1, { e with baselineDone := s.checkWork.2 }, [])
  | .detectors => ((s.detectorWork e.baselineDone).1, e, (s.detectorWork e.baselineDone).2)
  | .valves => (s.valveWork.1, e, s.valveWork.2)
  | .share => (s.shareWork, e, [])
  | .trips => (s, e, s.tripReports)
  | .tickets => (s.ticketWork, e, [])

/-- Reports whose turn has passed are taken at once, in the order of their turns; the others wait for theirs. -/
def hand (reports : List SampleReport) (s : State) (e : Event) : State × Event :=
  ((e.passed.filter (fun r => reports.contains r)).foldl (fun t r => t.takeReport r) s,
    { e with waiting := e.waiting ++ reports.filter (fun r => !e.passed.contains r) })

/-- R65: an exit from "PUSH" cancels a confirmation that waits for its turn; a resume begins the detection from nothing. -/
def Event.cancelAtExit (before after : Phase) (e : Event) : Event :=
  if before = .push ∧ after ≠ .push then { e with waiting := e.waiting.filter (fun r => r != .confirm) } else e

/-- What one turn does: a block's work with its reports handed over, or the taking of a report. -/
def takeTurn (t : SampleTurn) (s : State) (e : Event) : State × Event :=
  match t with
  | .work w => hand (doWork w s e).2.2 (doWork w s e).1 (doWork w s e).2.1
  | .take r =>
    (if e.waiting.contains r then s.takeReport r else s, { e with passed := e.passed ++ [r] })

/-- One turn, and what an exit from "PUSH" within it cancels. -/
def runTurn (t : SampleTurn) (s : State) (e : Event) : State × Event :=
  ((takeTurn t s e).1, (takeTurn t s e).2.cancelAtExit s.seq.phase (takeTurn t s e).1.seq.phase)

/-- The turns one after another. -/
def runTurns : List SampleTurn → State → Event → State
  | [], s, _ => s
  | t :: rest, s, e => runTurns rest (runTurn t s e).1 (runTurn t s e).2

/-! ## The event -/

/-- R1 (1) to (3), and the prompt test where the new P_car changes a demand (R41, R113). -/
def State.sampleInputs (counts : Six (BitVec 12)) (levels : Twelve Bool) (s : State) : State :=
  (s.onInput (InputUnit.sample s.cfg counts levels)).promptOnMove s.demands

/-- What the panel reports at this event. -/
def State.eventOf (levels : Twelve Bool) (s : State) : Event :=
  ⟨panelReports s.cfg s.input (twelveZip debounceStep s.input.debounce levels), false, false, [], []⟩

/-- SAMPLE_EVENT: R1. In "OFFLINE" no samples are taken. -/
def execSampleEvent (counts : Six (BitVec 12)) (levels : Twelve Bool) (order : List SampleTurn) (s : State) :
    Host.Outcome State Fault Refusal :=
  .next
    (if s.running then runTurns (turnsOf order) (s.sampleInputs counts levels) (s.eventOf levels) else s)

end Sys2Proof.Machine
end

