-- ==== Sys2Proof/Machine/Timers.lean ====
section
/-!
DEFINITION. The phase timers and the temporary code timer (chapter 2), and the passing of time while no command waits:
100 ms for every timer and age that counts, or the next line state of an attempt in progress.
-/

namespace Sys2Proof.Machine

open Sys2Proof

/-! ## Expiries (R17): a command acts where the timer stands at its limit (DESIGN CHOICE, assumption 4) -/

/-- DRAIN_TIMER_EXPIRY: R28 (1). That the expired timer is idle afterwards is the model's choice (DESIGN CHOICE,
assumption 22): R28 says nothing of it. -/
def execDrainTimerExpiry (s : State) : Host.Outcome State Fault Refusal :=
  .next
    (if s.seq.phase = .drain ∧ reached (10 * s.cfg.drainTime) s.seq.drainTimer then
      (s.onSeq (fun q => { q with drainStep := .shutting, drainTimer := none })).applyCommands
    else s)

/-- RECOVERY_TIMER_EXPIRY: R29, the time limit. The timer is idle afterwards (`State.enterClose`, assumption 22). -/
def execRecoveryTimerExpiry (s : State) : Host.Outcome State Fault Refusal :=
  .next
    (if s.seq.phase = .recover ∧ reached (10 * s.cfg.recoveryLimit) s.seq.recoveryTimer then
      (s.note .empty 2).enterClose
    else s)

/-- BLEED_TIMER_EXPIRY: R31 (2); "RELEASING" ends at once where both arms are already "INACTIVE". That the expired timer
is idle afterwards is the model's choice (DESIGN CHOICE, assumption 22): R31 says nothing of it. -/
def execBleedTimerExpiry (s : State) : Host.Outcome State Fault Refusal :=
  .next
    (if s.seq.phase = .close ∧ reached (10 * s.cfg.bleedTime) s.seq.bleedTimer then
      ((s.onSeq (fun q => { q with closeStep := .releasing, bleedTimer := none })).applyCommands).endReleasing
    else s)

/-- TEMPORARY_CODE_TIMER_EXPIRY: R43. That the timer is idle once the code is removed is the model's choice (DESIGN CHOICE,
assumption 22): R43 says only that the code is removed. -/
def execTemporaryCodeTimerExpiry (s : State) : Host.Outcome State Fault Refusal :=
  .next (if reached 50 s.seq.tempTimer then s.onSeq (fun q => { q with tempCode := none, tempTimer := none }) else s)

/-! ## Time without a command (DESIGN CHOICE, assumption 3) -/

/-- A counting timer counts one unit and holds at its limit, where its expiry is an event of its own (R17). -/
def tickTo (limit : Nat) (t : Timer) : Timer := t.map (fun n => max n (min limit (n + 1)))

/-- One unit of an age, held at its limit. -/
def ageTo (limit n : Nat) : Nat := max n (min limit (n + 1))

def Sequence.tick (c : Settings) (q : Sequence) : Sequence :=
  { q with
    drainTimer := tickTo (10 * c.drainTime) q.drainTimer
    recoveryTimer := tickTo (10 * c.recoveryLimit) q.recoveryTimer
    bleedTimer := tickTo (10 * c.bleedTime) q.bleedTimer
    tempTimer := tickTo 50 q.tempTimer }

/-- R74: the clear timer counts in "PUSH" alone. -/
def DetectorUnit.tick (c : Settings) (phase : Phase) (d : DetectorUnit) : DetectorUnit :=
  { d with
    confirmTimer := tickTo c.confirmWait d.confirmTimer
    clearTimer := if phase = .push then tickTo (10 * c.clearTime) d.clearTimer else d.clearTimer }

def ValveDriver.tick (c : Settings) (v : ValveDriver) : ValveDriver :=
  { v with
    lv := { v.lv with timer := tickTo c.lvTravel v.lv.timer }
    sv := { v.sv with timer := tickTo c.svTravel v.sv.timer }
    rv := { v.rv with timer := tickTo c.rvTravel v.rv.timer } }

/-- R98, R107: the recessive run after 100 ms. On an idle line they hold no dominant bit, and the run grows. A line that
is not idle after them held dominant bits throughout, since 168 recessive bits, 3.4 ms, make it idle whatever went before
(DEDUCED, assumption 9); the run is then less than a unit. In off the station reads nothing. -/
def LineController.recessiveLater (l : LineController) : Nat :=
  if l.state = .off then l.recessiveRun
  else if l.track = .idle then ageTo 10 l.recessiveRun
  else 0

/-- R107, R112: announce and spacing timers, and the recessive run. -/
def LineController.tick (c : Settings) (l : LineController) : LineController :=
  { l with
    announceTimer := tickTo c.announcePeriod l.announceTimer
    spacingTimer := tickTo (spacingTime c) l.spacingTimer
    recessiveRun := l.recessiveLater }

/-- R125 to R127: a record's age up to its next threshold, or its time in LAPSED up to the forget time. -/
def Peer.tick (c : Settings) (p : Peer) : Peer :=
  match p.liveness with
  | .current => { p with age := ageTo (staleThreshold c) p.age }
  | .stale => { p with age := ageTo (lapseThreshold c) p.age }
  | .lapsed => { p with lapsedTime := ageTo (10 * c.forgetTime) p.lapsedTime }

/-- 100 ms pass. -/
def State.tick (s : State) : State :=
  { s with
    seq := s.seq.tick s.cfg
    check := { s.check with timer := tickTo (10 * s.cfg.holdTime) s.check.timer }
    det := s.det.tick s.cfg s.seq.phase
    valve := s.valve.tick s.cfg
    line := s.line.tick s.cfg
    peers := s.peers.map (Peer.tick s.cfg)
    share := { s.share with starvation := tickTo s.cfg.starveLimit s.share.starvation } }

/-- What happens while no command waits. An attempt on the line takes a few milliseconds, so it goes on first: with no
arbitration loss it enters "SEND", with no send error "ACKCHK" (R103, R104), where it waits for its end. Otherwise
100 ms pass. -/
def State.elapse (s : State) : State :=
  match s.line.state with
  | .contend => s.onLine LineController.winArbitration
  | .send => s.onLine (fun l => { l with state := .ackchk })
  | .ackchk => s
  | _ => s.tick

end Sys2Proof.Machine
end

