-- ==== Sys2Proof/Machine/Dispatch.lean ====
section
/-!
DEFINITION. The dispatch: one arm per command of spec/opcode_table.json, each one direct call of the command's meaning.
-/

namespace Sys2Proof.Machine

open Sys2Proof

def exec (i : Instr) (s : State) : Host.Outcome State Fault Refusal :=
  match i with
  | .por => Sys2Proof.Machine.execPor s
  | .rstn => Sys2Proof.Machine.execRstn s
  | .resetEnd straps => Sys2Proof.Machine.execResetEnd straps s
  | .memoryAttemptFailed byte => Sys2Proof.Machine.execMemoryAttemptFailed byte s
  | .memoryRetryPauseExpiry => Sys2Proof.Machine.execMemoryRetryPauseExpiry s
  | .imageReadComplete image => Sys2Proof.Machine.execImageReadComplete image s
  | .sampleEvent counts levels order => Sys2Proof.Machine.execSampleEvent counts levels order s
  | .pulseEdge meter => Sys2Proof.Machine.execPulseEdge meter s
  | .taginIdleWaitDone => Sys2Proof.Machine.execTaginIdleWaitDone s
  | .characterArrival code framingGood => Sys2Proof.Machine.execCharacterArrival code framingGood s
  | .drainTimerExpiry => Sys2Proof.Machine.execDrainTimerExpiry s
  | .recoveryTimerExpiry => Sys2Proof.Machine.execRecoveryTimerExpiry s
  | .bleedTimerExpiry => Sys2Proof.Machine.execBleedTimerExpiry s
  | .temporaryCodeTimerExpiry => Sys2Proof.Machine.execTemporaryCodeTimerExpiry s
  | .checkTimerExpiry => Sys2Proof.Machine.execCheckTimerExpiry s
  | .confirmTimerExpiry => Sys2Proof.Machine.execConfirmTimerExpiry s
  | .clearTimerExpiry => Sys2Proof.Machine.execClearTimerExpiry s
  | .travelTimerExpiry valve => Sys2Proof.Machine.execTravelTimerExpiry valve s
  | .starvationTimerExpiry => Sys2Proof.Machine.execStarvationTimerExpiry s
  | .announceTimerExpiry => Sys2Proof.Machine.execAnnounceTimerExpiry s
  | .spacingTimeReached => Sys2Proof.Machine.execSpacingTimeReached s
  | .uptimeSecond => Sys2Proof.Machine.execUptimeSecond s
  | .staleThresholdReached address => Sys2Proof.Machine.execStaleThresholdReached address s
  | .lapseThresholdReached address => Sys2Proof.Machine.execLapseThresholdReached address s
  | .forgetTimeReached address => Sys2Proof.Machine.execForgetTimeReached address s
  | .contentionStart => Sys2Proof.Machine.execContentionStart s
  | .arbitrationLoss => Sys2Proof.Machine.execArbitrationLoss s
  | .sendError place => Sys2Proof.Machine.execSendError place s
  | .stuckLine => Sys2Proof.Machine.execStuckLine s
  | .sendCompleted acked => Sys2Proof.Machine.execSendCompleted acked s
  | .faultExit => Sys2Proof.Machine.execFaultExit s
  | .frameBadCheck => Sys2Proof.Machine.execFrameBadCheck s
  | .frameDiscarded kind source payload => Sys2Proof.Machine.execFrameDiscarded kind source payload s
  | .conflict => Sys2Proof.Machine.execConflict s
  | .tripFrame source causeSet => Sys2Proof.Machine.execTripFrame source causeSet s
  | .clearFrame source => Sys2Proof.Machine.execClearFrame source s
  | .announceFrame source payload => Sys2Proof.Machine.execAnnounceFrame source payload s
  | .inquiry source target number => Sys2Proof.Machine.execInquiry source target number s
  | .collect source target number => Sys2Proof.Machine.execCollect source target number s
  | .reportFrame source payload => Sys2Proof.Machine.execReportFrame source payload s
  | .lineIdle => Sys2Proof.Machine.execLineIdle s
  | .frameEndFieldError => Sys2Proof.Machine.execFrameEndFieldError s

end Sys2Proof.Machine
end

