-- ==== Sys2Proof/Safety.lean ====
section
/-!
DEFINITION. What counts as a safe part, in the terms the claims use: the interlocks of the valves, the trip unit's
agreement with the phase, the tickets' agreement with the phase, the order of the outgoing list, the peer table, the
check, the hold and the grants. Each of these predicates is meant to be kept by every step, from every state that has
it. Beside them stand the words the claims share: which blocks an event leaves alone, the values after a reset, and
how a timer counts.
-/

namespace Sys2Proof.Machine

open Sys2Proof

/-! ## What an event leaves alone -/

/-- The parts of the state, by the block that owns each, with the reset in progress and the queue. -/
inductive Block where
  | resetting | loader | input | seq | check | det | valve | line | peers | share | trip | ticket | queue
deriving DecidableEq, Repr

/-- Two states hold the same in one block. -/
def Block.same : Block → State → State → Prop
  | .resetting, s, t => t.resetting = s.resetting
  | .loader, s, t => t.loader = s.loader
  | .input, s, t => t.input = s.input
  | .seq, s, t => t.seq = s.seq
  | .check, s, t => t.check = s.check
  | .det, s, t => t.det = s.det
  | .valve, s, t => t.valve = s.valve
  | .line, s, t => t.line = s.line
  | .peers, s, t => t.peers = s.peers
  | .share, s, t => t.share = s.share
  | .trip, s, t => t.trip = s.trip
  | .ticket, s, t => t.ticket = s.ticket
  | .queue, s, t => t.pending = s.pending

/-- From `s` to `t` nothing changes outside the named blocks. -/
def Untouched (changed : List Block) (s t : State) : Prop := ∀ b : Block, b ∉ changed → b.same s t

/-! ## The values after a reset -/

/-- The reset values of R16, R45, R58, R80, R95, R117, R131, R152, R167 and section 11.1, with the outputs of R42, R44 and
R95. The ticket unit's values depend on the kind of reset (R181), the own address on the straps (R183), and the number
of ring slots on the loaded settle depth (R152). -/
structure ResetValues (t : State) : Prop where
  loaderState : t.loader.state = .reading ∧ t.loader.attempts = 0 ∧ t.loader.cause = none
  configuration : t.loader.inUse = none ∧ t.loader.signature = none
  sensors : ∀ r ∈ [t.input.sensors.pCar, t.input.sensors.pLiq, t.input.sensors.tLiq, t.input.sensors.x,
    t.input.sensors.y, t.input.sensors.z], r = ⟨.good, 0, 0, 0⟩
  pulses : t.input.liquidPulses = 0 ∧ t.input.vapourPulses = 0 ∧ t.input.liquidSample = 0 ∧ t.input.vapourSample = 0
  flow : t.input.window = [0, 0, 0, 0, 0, 0, 0, 0] ∧ t.input.flow = 0
  debouncers : ∀ d ∈ [t.input.debounce.groundOk, t.input.debounce.liquidArm, t.input.debounce.vapourArm,
    t.input.debounce.gasAlarm, t.input.debounce.lvOpen, t.input.debounce.lvClosed, t.input.debounce.svClosed,
    t.input.debounce.rvClosed, t.input.debounce.start, t.input.debounce.stop, t.input.debounce.reset,
    t.input.debounce.esd], d = ⟨.unsettled, none, 0⟩
  tag : t.input.longPress = 0 ∧ t.input.receiver = .off ∧ t.input.buffer = [] ∧ t.input.discard = false
    ∧ t.input.identity = []
  phase : t.seq.phase = .offline ∧ t.seq.held = none ∧ t.seq.reason = none ∧ t.seq.stopped = false
  steps : t.seq.drainStep = .draining ∧ t.seq.closeStep = .shutting ∧ t.seq.residual = 0
  phaseTimers : t.seq.drainTimer = none ∧ t.seq.recoveryTimer = none ∧ t.seq.bleedTimer = none
  tempCode : t.seq.tempCode = none ∧ t.seq.tempTimer = none
  check : t.check = ⟨.inactive, 0, ⟨0, 0, 0⟩, ⟨none, none, none⟩, ⟨none, none, none⟩, none, none, none⟩
  detectors : t.det = ⟨.counting, 0, none, 0, .armed, none, 0, 0, 0, none, 0⟩
  valves : t.valve = ⟨.closed, .closed, 0, 0, 0, 0, ⟨.closing, none⟩, ⟨.closing, none⟩, ⟨.closing, none⟩, 0⟩
  line : t.line.state = .off ∧ t.line.lineIdle = false ∧ t.line.outgoing = [] ∧ t.line.inFlight = none
  lineCounts : t.line.sendErrors = 0 ∧ t.line.unacked = 0 ∧ t.line.lastAnnounced = none
    ∧ t.line.recessiveRun = 0 ∧ t.line.dominantRun = 0 ∧ t.line.ackDriven = false
  announceTimers : t.line.announceTimer = none ∧ t.line.spacingTimer = none ∧ t.line.promptRequest = false
  peers : t.peers = []
  grants : t.share.share = ⟨0, 0, 0⟩ ∧ t.share.grant = ⟨0, 0, 0⟩
  island : t.share.island = .joined ∧ t.share.faultMarker = false ∧ t.share.starvation = none
  rings : ∀ p, ∀ v ∈ t.share.rings.get p, v = 0
  trip : t.trip = ⟨[], false, []⟩ ∧ t.trip.tripped = false
  outputs : t.drives = ⟨false, 0, 0, false⟩ ∧ t.lamps = ⟨false, false, false, false⟩ ∧ t.valve.allClosed = false

/-! ## The ranges of the image -/

/-- Section 11.3: the unsigned fields with a range of their own: first byte, width in bytes, low end, high end. A field
whose range is every value it can hold is not listed. -/
def rangeTable : List (Nat × Nat × Nat × Nat) := [
  (12, 1, 2, 20), (13, 1, 2, 4), (14, 1, 2, 6), (15, 1, 0, 16), (16, 2, 30, 3600), (18, 1, 2, 8),
  (50, 2, 1, 5000), (52, 2, 1, 5000), (54, 1, 5, 120), (55, 2, 60, 3600), (57, 1, 5, 120), (62, 1, 5, 25),
  (65, 2, 0, 6000), (67, 2, 1, 6000), (69, 1, 0, 1),
  (70, 2, 1, 2000), (72, 2, 1, 2000), (74, 2, 1, 2000), (76, 1, 10, 120), (77, 1, 1, 200), (78, 2, 1, 65535),
  (80, 1, 5, 200), (81, 1, 5, 200), (82, 1, 0, 100), (83, 2, 1, 65535), (85, 1, 2, 50), (86, 2, 1, 2000),
  (88, 2, 1, 6000), (90, 1, 1, 50),
  (91, 2, 0, 6000), (93, 2, 0, 6000), (95, 2, 0, 6000), (97, 2, 0, 6000), (99, 2, 0, 6000), (101, 2, 0, 6000),
  (103, 2, 0, 6000), (105, 2, 0, 6000), (107, 2, 0, 6000), (109, 2, 0, 6000), (111, 2, 0, 6000),
  (113, 2, 0, 1000), (115, 1, 3, 100), (116, 1, 1, 4), (117, 2, 5, 600), (119, 1, 2, 20),
  (120, 2, 1, 65535), (122, 2, 1, 65535), (124, 1, 5, 100), (125, 2, 1, 1000), (127, 2, 10, 300), (129, 2, 10, 300),
  (131, 2, 10, 300), (133, 2, 10, 5000), (147, 2, 50, 6000)]

/-- R185 (4): the first byte of each sensor group and its input's engineering range. -/
def groupTable : List (Nat × Int × Int) :=
  [(20, 0, 6000), (25, 0, 6000), (30, -500, 700), (35, -5000, 5000), (40, -5000, 5000), (45, -5000, 5000)]

/-- An unsigned field of one or two bytes (section 11.3). -/
def fieldAt (image : List Byte) (first width : Nat) : Nat := if width = 1 then byteAt image first else halfAt image first

/-- R185: every field in its range, and the conditions between fields. -/
abbrev ImageInRange (image : List Byte) : Prop :=
  (∀ row ∈ rangeTable, row.2.2.1 ≤ fieldAt image row.1 row.2.1 ∧ fieldAt image row.1 row.2.1 ≤ row.2.2.2) ∧
  (byteAt image 19 = 50 ∨ byteAt image 19 = 100 ∨ byteAt image 19 = 200) ∧
  (∀ pool ∈ [0, 1, 2], halfAt image (6 + 2 * pool) ≤ halfAt image (2 * pool) ∧
    (0 < halfAt image (2 * pool) → 0 < halfAt image (135 + 2 * pool))) ∧
  byteAt image 14 < byteAt image 15 ∧
  (∀ row ∈ groupTable, row.2.1 ≤ signedAt image row.1 ∧ signedAt image row.1 < signedAt image (row.1 + 2) ∧
    signedAt image (row.1 + 2) ≤ row.2.2 ∧ 1 ≤ byteAt image (row.1 + 4) ∧ byteAt image (row.1 + 4) ≤ 50) ∧
  (∀ i < 41, byteAt image (149 + i) = 0)

/-! ## Frames -/

/-- R98, R100: the line after a frame that the station acknowledged or not. -/
def frameOver (ack : Bool) (l : LineController) : LineController :=
  { l with track := .afterFrame, recessiveRun := 0, dominantRun := 0, ackDriven := ack }

/-- R98, R103: the station receives the frame that ends now, and has read no bit of it spoilt. -/
abbrev Hears (s : State) : Prop := s.line.receives = true ∧ s.line.track ≠ .spoilt

/-- R103: it drives the ack slot of a good frame in every receiving state but "FAULT". -/
def acksGood (s : State) : Bool := decide (s.line.state ≠ .fault)

/-! ## Counting timers -/

/-- R17: a counting timer after one more unit, held at its limit; an idle one stays idle. -/
def counted (limit : Nat) (t : Timer) : Timer := t.map (fun n => if n < limit then n + 1 else n)

/-! ## Notes -/

/-- R173: the open ticket after a note of this kind and value, stamped with the uptime; `none` where no ticket is open. -/
def noted (kind : NoteKind) (value : Nat) (u : TicketUnit) : Option Ticket :=
  u.current.map (fun k =>
    if k.notes.length < 8 then { k with notes := k.notes ++ [⟨kind, u.uptime, value⟩] } else { k with overflow := true })

/-! ## Invariants -/

/-- R81, R87, R92: LV and BV are commanded as the phase and its step say; an SV target above 0 is had in "PUSH" alone and
an RV target above 0 in "RECOVER" alone; no opening is above its target, and no target above 1000 per mille. -/
abbrev Interlocked (s : State) : Prop :=
  s.valve.lvCommand = lvWanted s.seq.phase s.seq.drainStep ∧
  s.valve.bvCommand = bvWanted s.seq.phase s.seq.closeStep ∧
  s.valve.svOpening ≤ s.valve.svTarget ∧ s.valve.svTarget ≤ 1000 ∧
  s.valve.rvOpening ≤ s.valve.rvTarget ∧ s.valve.rvTarget ≤ 1000 ∧
  (s.valve.svTarget ≠ 0 → s.seq.phase = .push) ∧
  (s.valve.rvTarget ≠ 0 → s.seq.phase = .recover)

/-- R19, R117, R131, R167, R188: a part in reset is in "OFFLINE"; in "OFFLINE" the line controller is off and the peer
table, the trip list and the latched causes are empty; outside it the loader has released the part. -/
abbrev OfflineQuiet (s : State) : Prop :=
  (s.resetting ≠ none → s.seq.phase = .offline) ∧
  (s.seq.phase = .offline →
    s.line.state = .off ∧ s.peers = [] ∧ s.trip.latched = [] ∧ s.trip.list = [] ∧ s.trip.outstanding = false) ∧
  (s.seq.phase ≠ .offline → s.loader.state = .released ∧ s.line.state ≠ .off)

/-- R154, R156, R158, R37, R183: the latched causes are causes that can be latched, in the order of their numbers
(assumption 17); no originator has two entries, and each is an address a source may have; the own entry stands exactly
while a siding-scope cause is latched, with the latched siding-scope causes as its set; trip-outstanding is set exactly
while it stands; and outside "OFFLINE" the phase is "TRIPPED" while the tripped indication is set. -/
abbrev TripsAgree (s : State) : Prop :=
  OfflineQuiet s ∧
  isStation s.loader.ownAddress = true ∧
  s.trip.latched = latchable.filter (fun c => s.trip.latched.contains c) ∧
  (s.trip.list.map TripEntry.originator).Nodup ∧
  (∀ e ∈ s.trip.list, validSource e.originator = true) ∧
  (s.trip.outstanding = s.trip.latched.any isSiding) ∧
  (s.trip.list.filter (fun e => e.originator == s.loader.ownAddress)
    = if s.trip.outstanding then [⟨s.loader.ownAddress, .known s.trip.sidingSet⟩] else []) ∧
  (s.trip.tripped = true → s.seq.phase = .tripped)

/-- The phases in which R174 has a ticket open whatever else holds. -/
def Phase.hasTicket : Phase → Bool
  | .push => true
  | .drain => true
  | .recover => true
  | .close => true
  | .hold => true
  | _ => false

/-- R174: a ticket is open exactly in "PUSH", "DRAIN", "RECOVER", "CLOSE" and "HOLD" or in "TRIPPED" with a ticket not yet
closed; the closed-ticket store never holds more than 4 tickets, and has room while a check runs or a ticket is
open. -/
abbrev TicketsAgree (s : State) : Prop :=
  OfflineQuiet s ∧
  (s.seq.phase.hasTicket = true → s.ticketOpen = true) ∧
  (s.ticketOpen = true → s.seq.phase.hasTicket = true ∨ s.seq.phase = .tripped) ∧
  s.ticket.store.length ≤ 4 ∧
  (s.seq.phase = .check ∨ s.ticketOpen = true → s.ticket.store.length ≤ 3)

/-- R119, R120, R183: no two records of one address, none of the own address, and only of addresses a source may have. -/
abbrev PeersKept (s : State) : Prop :=
  OfflineQuiet s ∧
  isStation s.loader.ownAddress = true ∧
  (s.peers.map Peer.address).Nodup ∧
  (∀ p ∈ s.peers, p.address ≠ s.loader.ownAddress ∧ validSource p.address = true)

/-- Position of a frame in the outgoing list: by kind, and within a REPORT series by part (R109). -/
def OutFrame.place : OutFrame → Nat
  | .trip => 0
  | .clear => 100
  | .announce => 200
  | .report part => 400 + part

/-- R109, R110, R108, R116: the outgoing list is strictly in the order of kinds and parts, so that no kind stands twice
and a series is in part order; TRIP and CLEAR never wait together; REPORT parts wait only while a series is pending;
in off and in "SILENT" the list is empty and no frame is in flight; a frame is in flight exactly during an attempt, and
it is a member of the list unless R110 took it out, which happens to a TRIP or a CLEAR alone. -/
abbrev OutgoingOrdered (s : State) : Prop :=
  OfflineQuiet s ∧
  s.line.outgoing.Pairwise (fun a b => a.place < b.place) ∧
  ¬ (OutFrame.trip ∈ s.line.outgoing ∧ OutFrame.clear ∈ s.line.outgoing) ∧
  (s.line.seriesWaits = true → s.ticket.series.isSome = true) ∧
  (s.line.takesRequests = false → s.line.outgoing = [] ∧ s.line.inFlight = none) ∧
  (s.line.inFlight.isSome = s.line.sending) ∧
  (∀ i ∈ s.line.inFlight, i.removed = false → i.frame ∈ s.line.outgoing) ∧
  (∀ i ∈ s.line.inFlight, i.removed = true → i.frame = .trip ∨ i.frame = .clear)

/-- Chapter 3, R46, R52, R53, R55, R56: a check step other than "INACTIVE" is had in "CHECK" alone, and in "CHECK" always. -/
abbrev CheckInPhase (s : State) : Prop :=
  OfflineQuiet s ∧ (s.check.step ≠ .inactive ↔ s.seq.phase = .check)

/-- The numbers of the closed tickets in closing order, then of the open one. -/
def TicketUnit.numbers (u : TicketUnit) : List Nat := (u.store ++ u.current.toList).map Ticket.number

/-- R169: no two tickets of the store and the open ticket carry one number; every number, and the next one, lies in 1 to
65535. -/
abbrev NumbersDiffer (s : State) : Prop :=
  TicketsAgree s ∧ s.ticket.numbers.Nodup ∧ (∀ n ∈ s.ticket.numbers, 1 ≤ n ∧ n ≤ 65535) ∧
  1 ≤ s.ticket.nextNumber ∧ s.ticket.nextNumber ≤ 65535

/-- R27, R33, R35, R37, R38: "HOLD" always has a reason and no other phase has one; a held phase stands in "HOLD", and in
"TRIPPED" while a ticket is open. -/
abbrev HoldKept (s : State) : Prop :=
  TicketsAgree s ∧ (s.seq.phase = .hold ↔ s.seq.reason.isSome = true) ∧
  (s.seq.phase = .hold → s.seq.held.isSome = true) ∧
  (s.seq.phase = .tripped → s.ticketOpen = true → s.seq.held.isSome = true)

/-- R65, R145: outside "PUSH" no liquid-out detection and no starvation is under way. -/
abbrev PushQuiet (s : State) : Prop :=
  s.seq.phase ≠ .push →
    s.det.stage = .counting ∧ s.det.lowCount = 0 ∧ s.det.confirmTimer = none ∧ s.share.starvation = none

/-- R143: outside ISLAND a grant is at most the share, in ISLAND at most the allowance, always at most the spot rating, and
0 in a phase that does not draw on its pool. -/
abbrev GrantsBounded (s : State) : Prop :=
  OfflineQuiet s ∧
  ∀ p : Pool,
    (s.seq.phase.draws p = false → s.share.grant.get p = 0) ∧
    (s.share.island = .joined → s.share.grant.get p ≤ s.share.share.get p) ∧
    (s.share.island = .island → s.share.grant.get p ≤ s.cfg.allowance.get p) ∧
    s.share.grant.get p ≤ s.cfg.spotRating.get p

end Sys2Proof.Machine
end

