-- ==== Sys2Proof/WellFormed.lean ====
section
/-!
DEFINITION. When a command spells an event that can reach the part: its address is one a frame may carry, its payload has
the length of its kind (0 to 15 bytes, section 6.2), its check is good, a discarded frame is one that R101 discards,
and no turn of a sample event is named twice.
-/

namespace Sys2Proof

open Sys2Proof.Machine

/-- The order of a sample event names each turn at most once. -/
def noTurnTwice : List SampleTurn → Bool
  | [] => true
  | t :: rest => !rest.contains t && noTurnTwice rest

/-- R101: sources a good frame handed on may bear. -/
def goodAddress (a : Address) : Bool := validSource a.toNat

/-- R99, R101: a good frame that is handed on to its owners. -/
def handedOn (f : Frame) : Bool :=
  checkGood f && goodAddress f.source && lengthOfKind f.kind.toNat f.payload.length

/-- The command is well formed. -/
def Instr.wellFormed : Instr → Bool
  | .por => true
  | .rstn => true
  | .resetEnd _ => true
  | .memoryAttemptFailed _ => true
  | .memoryRetryPauseExpiry => true
  | .imageReadComplete _ => true
  | .sampleEvent _ _ order => noTurnTwice order
  | .pulseEdge _ => true
  | .taginIdleWaitDone => true
  | .characterArrival _ _ => true
  | .drainTimerExpiry => true
  | .recoveryTimerExpiry => true
  | .bleedTimerExpiry => true
  | .temporaryCodeTimerExpiry => true
  | .checkTimerExpiry => true
  | .confirmTimerExpiry => true
  | .clearTimerExpiry => true
  | .travelTimerExpiry _ => true
  | .starvationTimerExpiry => true
  | .announceTimerExpiry => true
  | .spacingTimeReached => true
  | .uptimeSecond => true
  | .staleThresholdReached address => goodAddress address
  | .lapseThresholdReached address => goodAddress address
  | .forgetTimeReached address => goodAddress address
  | .contentionStart => true
  | .arbitrationLoss => true
  | .sendError _ => true
  | .stuckLine => true
  | .sendCompleted _ => true
  | .faultExit => true
  | .frameBadCheck => true
  | .frameDiscarded kind source payload => decide (payload.content.length ≤ 15) &&
    discards ⟨kind, source, payload.content, payload.check⟩
  | .conflict => true
  | .tripFrame source causeSet => handedOn ⟨0, source, halfBytes causeSet.content, causeSet.check⟩
  | .clearFrame source => handedOn ⟨1, source.content, [], source.check⟩
  | .announceFrame source payload => handedOn ⟨2, source, announcePayloadBytes payload.content, payload.check⟩
  | .inquiry source target number => handedOn ⟨3, source, requestBytes target number.content, number.check⟩
  | .collect source target number => handedOn ⟨5, source, requestBytes target number.content, number.check⟩
  | .reportFrame source payload => handedOn ⟨4, source, payload.content, payload.check⟩
  | .lineIdle => true
  | .frameEndFieldError => true

end Sys2Proof
end

