-- ==== Sys2Proof/Certificates/Slice0/Obligations.lean ====
section
/-!
DEFINITION. The statements for the provers, in the order of the manual's chapters after the interface and the resets.
A statement that gives a whole next state as a record update says by that what the event leaves alone; the others say
it with `Untouched`, which names the blocks that may change. Where a statement rests on a choice of the model and not
on a rule, its docstring names the assumption.
-/

open Sys2Proof Sys2Proof.Machine

/-! ## The queue and the passing of time -/

/-- The model's choice of interface (a block's queue of commands): one step is the command at the front. -/
def Obligations.StepRunsFrontCommand : Prop :=
  ∀ (c : Instr) (rest : List Instr) (s : State),
    step { s with pending := c :: rest } = exec c { s with pending := rest }

/-- Every command answers a next state, and none reads or changes the queue of the commands that wait: with another queue
it does the same and leaves that queue (the model's choice, assumption 19). -/
def Obligations.CommandsLeaveTheQueue : Prop :=
  ∀ (c : Instr) (s : State), ∃ t, exec c s = .next t ∧ t.pending = s.pending ∧
    ∀ queue, exec c { s with pending := queue } = .next { t with pending := queue }

/-- Assumption 3: with no command waiting an attempt goes on to its next line state (R103), and outside an attempt every
counting timer of R17, R51, R63, R74, R88, R112, R114, R145, every age of R125 to R127 and, with line idle, the recessive
run of R107 counts one unit of 100 ms and holds at its limit. A line that is not idle for 100 ms held dominant bits
throughout, and the run is 0 (assumption 9). Nothing else changes. -/
def Obligations.IdleStepCountsTime : Prop :=
  ∀ s : State, s.pending = [] →
    (s.line.state = .contend → step s = .next
      { s with line := { s.line with state := .send, recessiveRun := 0, dominantRun := 0 } }) ∧
    (s.line.state = .send → step s = .next { s with line := { s.line with state := .ackchk } }) ∧
    (s.line.state = .ackchk → step s = .next s) ∧
    (s.line.sending = false → step s = .next
      { s with
        seq := { s.seq with
          drainTimer := counted (10 * s.cfg.drainTime) s.seq.drainTimer
          recoveryTimer := counted (10 * s.cfg.recoveryLimit) s.seq.recoveryTimer
          bleedTimer := counted (10 * s.cfg.bleedTime) s.seq.bleedTimer
          tempTimer := counted 50 s.seq.tempTimer }
        check := { s.check with timer := counted (10 * s.cfg.holdTime) s.check.timer }
        det := { s.det with
          confirmTimer := counted s.cfg.confirmWait s.det.confirmTimer
          clearTimer :=
            if s.seq.phase = .push then counted (10 * s.cfg.clearTime) s.det.clearTimer else s.det.clearTimer }
        valve := { s.valve with
          lv := ⟨s.valve.lv.state, counted s.cfg.lvTravel s.valve.lv.timer⟩
          sv := ⟨s.valve.sv.state, counted s.cfg.svTravel s.valve.sv.timer⟩
          rv := ⟨s.valve.rv.state, counted s.cfg.rvTravel s.valve.rv.timer⟩ }
        line := { s.line with
          announceTimer := counted s.cfg.announcePeriod s.line.announceTimer
          spacingTimer := counted ((s.cfg.announcePeriod + 3) / 4) s.line.spacingTimer
          recessiveRun :=
            if s.line.state = .off then s.line.recessiveRun
            else if s.line.track ≠ .idle then 0
            else if s.line.recessiveRun < 10 then s.line.recessiveRun + 1 else s.line.recessiveRun }
        peers := s.peers.map (fun p =>
          match p.liveness with
          | .current =>
            { p with age := if p.age < s.cfg.staleCount * s.cfg.announcePeriod then p.age + 1 else p.age }
          | .stale =>
            { p with age := if p.age < s.cfg.lapseCount * s.cfg.announcePeriod then p.age + 1 else p.age }
          | .lapsed =>
            { p with lapsedTime := if p.lapsedTime < 10 * s.cfg.forgetTime then p.lapsedTime + 1 else p.lapsedTime })
        share := { s.share with starvation := counted s.cfg.starveLimit s.share.starvation } })

/-! ## Resets and the start-up loader -/

/-- The state after power-on: the reset tables, R181 for the ticket unit, R42 for the display, an empty queue; and it
has every invariant of Safety.lean. That the reset is still in progress is assumption 5, that the own address is a
station's meanwhile assumption 2, and that the ack slot has not been driven assumption 8. -/
def Obligations.ResetStateIsAfterPowerOn : Prop :=
  ResetValues State.reset ∧ State.reset.resetting = some .por ∧ State.reset.display = .blank ∧
    State.reset.ticket = ⟨none, [], 1, 0, false, none⟩ ∧ State.reset.pending = [] ∧
    Interlocked State.reset ∧ TripsAgree State.reset ∧ NumbersDiffer State.reset ∧ PeersKept State.reset ∧
    OutgoingOrdered State.reset ∧ CheckInPhase State.reset ∧ HoldKept State.reset ∧ PushQuiet State.reset ∧
    GrantsBounded State.reset

/-- POR: from every state, every block takes its value after POR; the tickets are lost (R181). That the queue of
waiting commands is kept is the model's choice (assumption 19), and that no ack slot is driven assumption 8. -/
def Obligations.PorResetsEveryBlock : Prop :=
  ∀ s : State, ∃ t, exec .por s = .next t ∧ ResetValues t ∧ t.resetting = some .por ∧ t.display = .blank ∧
    t.ticket = ⟨none, [], 1, 0, false, none⟩ ∧ t.pending = s.pending

/-- RSTN: every block takes its value after RSTN; an open ticket closes into the store with end reason "RESET", the
throttle level of that moment and the uptime, and the store, the next number and the uptime are kept (R180). A POR in
progress stays a POR (assumption 7), the queue of waiting commands is kept (the model's choice, assumption 19), and no
ack slot is driven (assumption 8). -/
def Obligations.RstnKeepsTheTickets : Prop :=
  ∀ s : State, ∃ t, exec .rstn s = .next t ∧ ResetValues t ∧ t.display = .blank ∧ t.pending = s.pending ∧
    t.resetting = (if s.resetting = some .por then some .por else some .rstn) ∧
    t.ticket.current = none ∧ t.ticket.nextNumber = s.ticket.nextNumber ∧ t.ticket.uptime = s.ticket.uptime ∧
    t.ticket.meterMarker = false ∧ t.ticket.series = none ∧
    (s.ticket.current = none → t.ticket.store = s.ticket.store) ∧
    (∀ k, s.ticket.current = some k → t.ticket.store = s.ticket.store ++
      [{ k with closeTime := some s.ticket.uptime, finalThrottle := some s.det.throttle, endReason := some .reset }])

/-- RESET_END, MEMORY_ATTEMPT_FAILED, MEMORY_RETRY_PAUSE_EXPIRY: the straps are sampled and the first attempt begins;
a byte not acknowledged counts the attempt, with a pause before the next one below three and the refusal "LM" at the
third (R182, R183, R188). -/
def Obligations.LoaderReadsInThreeAttempts : Prop :=
  ∀ (s : State) (straps : BitVec 4) (byte : PortByte),
    (s.resetting ≠ none → exec (.resetEnd straps) s = .next
      { s with resetting := none, loader := { s.loader with ownAddress := straps.toNat + 1, port := .attempt } }) ∧
    (s.resetting = none → s.loader.state = .reading → s.loader.port = .attempt → s.loader.attempts < 2 →
      exec (.memoryAttemptFailed byte) s = .next
        { s with loader := { s.loader with attempts := s.loader.attempts + 1, port := .pause } }) ∧
    (s.resetting = none → s.loader.state = .reading → s.loader.port = .attempt → 2 ≤ s.loader.attempts →
      exec (.memoryAttemptFailed byte) s = .next
        { s with loader := { s.loader with
            state := .refused, attempts := s.loader.attempts + 1, cause := some .lm, port := .quiet } }) ∧
    (s.loader.port = .pause →
      exec .memoryRetryPauseExpiry s = .next { s with loader := { s.loader with port := .attempt } })

/-- IMAGE_READ_COMPLETE (R184, R185, R186, R188): an image whose CRC differs is refused with "LC" whatever its fields hold;
with a good CRC one with a field out of its range, or a condition between fields that fails, is refused with "LR"; in
range, one with a saturation point lower than the point before it is refused with "LT". Any other image is valid, equal
neighbours among its points being accepted, and its table is non-decreasing from P_0 to P_10. A refusal changes the
loader alone; that the attempt count stays as it was is assumption 20. -/
def Obligations.BadImageIsRefused : Prop :=
  ∀ (s : State) (image : Vector Byte 192),
    s.resetting = none → s.loader.state = .reading → s.loader.port = .attempt →
    let refused := fun cause : Code =>
      { s with loader := { s.loader with state := .refused, cause := some cause, port := .quiet } }
    let crc := crcBytes (image.toList.take 190) = halfAt image.toList 190
    let point := fun i : Nat => halfAt image.toList (91 + 2 * i)
    (¬ crc → exec (.imageReadComplete image) s = .next (refused .lc)) ∧
    (crc → ¬ ImageInRange image.toList → exec (.imageReadComplete image) s = .next (refused .lr)) ∧
    (crc → ImageInRange image.toList → (∃ i, i < 10 ∧ point (i + 1) < point i) →
      exec (.imageReadComplete image) s = .next (refused .lt)) ∧
    (crc → ImageInRange image.toList → (∀ i, i < 10 → point i ≤ point (i + 1)) →
      judgeImage image.toList = none ∧ ∀ i j, i ≤ j → j ≤ 10 → point i ≤ point j)

/-- IMAGE_READ_COMPLETE with a valid image: the release (R188, R20, R96, R112, R118, R152, R187). That the
attempt count stays as it was is assumption 20, and that the temporary code timer is idle assumption 22. -/
def Obligations.ValidImageReleasesThePart : Prop :=
  ∀ (s : State) (image : Vector Byte 192),
    s.resetting = none → s.loader.state = .reading → s.loader.port = .attempt → OutgoingOrdered s →
    judgeImage image.toList = none →
    ∃ t, exec (.imageReadComplete image) s = .next t ∧
      Untouched [.loader, .input, .seq, .det, .valve, .line, .share, .ticket] s t ∧
      t.loader = { s.loader with
        state := .released
        inUse := some (settingsOf image.toList)
        signature := some (crcBytes (image.toList.take 19))
        port := .quiet } ∧
      t.input = { s.input with receiver := .waiting, identity := [] } ∧
      t.seq = ⟨.idle, none, none, false, .draining, none, 0, none, .shutting, none, none, none⟩ ∧
      t.det = { s.det with excessCount := 0, surge := .armed, previousPLiq := none, windowCount := 0 } ∧
      t.line = { s.line with state := .listen, track := .lost, outgoing := [.announce] } ∧
      t.valve.lv = ⟨.closing, some 0⟩ ∧ t.valve.sv = ⟨.closing, some 0⟩ ∧ t.valve.rv = ⟨.closing, some 0⟩ ∧
      t.drives = ⟨false, 0, 0, false⟩ ∧ t.valve.svTarget = 0 ∧ t.valve.rvTarget = 0 ∧
      (∀ p, t.share.rings.get p = List.replicate (byteAt image.toList 13) 0) ∧
      (∀ p, t.share.grant.get p = 0) ∧ t.share.share = s.share.share ∧ t.share.island = s.share.island ∧
      t.ticket = { s.ticket with meterMarker := false }

/-- R99, R184: bytes followed by their own CRC, most significant byte first, leave the CRC register 0. -/
def Obligations.CrcOfBytesAndTheirCrcIsZero : Prop :=
  ∀ bytes : List Byte, crcBytes (bytes ++ bytesOfNat16 (crcBytes bytes)) = 0

/-! ## Field inputs and sampling -/

/-- R2, R3, R4: the four bands of a converter count; the scaling of the in-range band on clamped counts, its product within
32 bits and never negative, its value between lo and hi; and the table of the sensor record, with the value 0 of a sensor
that never had a good sample. -/
def Obligations.AnalogCountsMakeSensorRecords : Prop :=
  ∀ (g : SensorGroup) (r : Sensor) (counts : BitVec 12), g.lo < g.hi → g.hi - g.lo ≤ 10000 →
    let clamped : Int := ((max 819 (min counts.toNat 4095) : Nat) : Int)
    (counts.toNat ≤ 736 → classifyCounts g counts.toNat = .faulted) ∧
    (737 ≤ counts.toNat → counts.toNat ≤ 818 → classifyCounts g counts.toNat = .good g.lo) ∧
    (819 ≤ counts.toNat → counts.toNat ≤ 4094 →
      classifyCounts g counts.toNat = .good (scaleCounts g counts.toNat)) ∧
    (counts.toNat = 4095 → classifyCounts g counts.toNat = .faulted) ∧
    scaleCounts g counts.toNat = g.lo + (clamped - 819) * (g.hi - g.lo) / 3276 ∧
    0 ≤ (clamped - 819) * (g.hi - g.lo) ∧ (clamped - 819) * (g.hi - g.lo) ≤ 32760000 ∧
    g.lo ≤ scaleCounts g counts.toNat ∧ scaleCounts g counts.toNat ≤ g.hi ∧
    (∀ v, classifyCounts g counts.toNat = .good v → sensorStep g r counts = ⟨.good, v, v, 0⟩) ∧
    (classifyCounts g counts.toNat = .faulted →
      (r.status = .good → sensorStep g r counts =
        ⟨if g.holdLimit = 1 then .fail else .hold, r.lastGood, r.lastGood, 1⟩) ∧
      (r.status = .hold → sensorStep g r counts =
        ⟨if g.holdLimit ≤ r.holdCount + 1 then .fail else .hold, r.lastGood, r.lastGood, r.holdCount + 1⟩) ∧
      (r.status = .fail → sensorStep g r counts = ⟨.fail, r.lastGood, r.lastGood, r.holdCount⟩)) ∧
    Sensor.reset.value = 0 ∧ Sensor.reset.lastGood = 0

/-- SAMPLE_EVENT, in every phase from "IDLE" on: the event runs every turn once, those that the command names first and in
its order (assumption 1); the input unit's new values are those of R1, R4, R6, R7 and R9, the identity holder is kept or
emptied (R14), and the event reaches neither the loader, the peer table nor the TAGIN line. -/
def Obligations.SampleEventReadsTheInputs : Prop :=
  ∀ (s : State) (counts : Six (BitVec 12)) (levels : Twelve Bool) (order : List SampleTurn),
    s.seq.phase ≠ .offline →
    (turnsOf order).Perm allTurns ∧
    (order.Nodup → (∀ turn ∈ order, turn ∈ allTurns) → order <+: turnsOf order) ∧
    ∃ t, exec (.sampleEvent counts levels order) s = .next t ∧
      t = runTurns (turnsOf order) (s.sampleInputs counts levels) (s.eventOf levels) ∧
      Untouched [.input, .seq, .check, .det, .valve, .line, .share, .trip, .ticket] s t ∧
      t.input.sensors = sixZip sensorStep s.cfg.sensors s.input.sensors counts ∧
      t.input.liquidSample = s.input.liquidPulses ∧ t.input.vapourSample = s.input.vapourPulses ∧
      t.input.liquidPulses = 0 ∧ t.input.vapourPulses = 0 ∧
      t.input.window = s.input.window.drop 1 ++ [s.input.liquidPulses] ∧
      t.input.flow = min 65535 (t.input.window.sum * s.cfg.liquidGrams * 3600 / (8 * s.cfg.samplePeriod)) ∧
      t.input.debounce = twelveZip debounceStep s.input.debounce levels ∧
      t.input.receiver = s.input.receiver ∧ t.input.buffer = s.input.buffer ∧ t.input.discard = s.input.discard ∧
      (t.input.identity = s.input.identity ∨ t.input.identity = [])

/-- R9: the debouncer's step; an edge at the third equal sample, none at a first settling, none for a level that lasts fewer
than three samples; "UNSETTLED" reads as "INACTIVE". -/
def Obligations.DebouncerSettlesAtThreeSamples : Prop :=
  ∀ (d : Debouncer) (raw : Bool),
    (d.lastRaw = some raw → (debounceStep d raw).run = min 3 (d.run + 1)) ∧
    (d.lastRaw ≠ some raw → (debounceStep d raw).run = 1) ∧
    (debounceStep d raw).lastRaw = some raw ∧
    ((debounceStep d raw).run = 3 → (debounceStep d raw).stable = if raw then .active else .inactive) ∧
    ((debounceStep d raw).run ≠ 3 → (debounceStep d raw).stable = d.stable) ∧
    (debounceStep (debounceStep (debounceStep d raw) raw) raw).stable = (if raw then .active else .inactive) ∧
    (d.lastRaw ≠ some raw → (debounceStep (debounceStep d raw) raw).stable = d.stable) ∧
    (d.stable = .unsettled → d.isActive = false ∧ isPress d (debounceStep d raw) = false)

/-- R10, R11: a press of START, STOP or RESET is reported at the sample event at which its debounced state changes from
"INACTIVE" to "ACTIVE", and at no other. Counted from a RESET press, with RESET stable "ACTIVE" at every later sample
event, the long press is reported at exactly one of them, the one at which the count reaches its limit, and the count
then stays there. A release takes the count back to 0 and gives no long press, and a RESET held through a reset, which
no press began, gives none however long it is held. That State marks the holding a press began is assumption 8. -/
def Obligations.PressesAreReportedOncePerHolding : Prop :=
  (∀ (limit : Nat) (active : Debouncer) (k : Nat), active.stable = .active →
    let after := Nat.iterate (fun c : Nat × Bool => longPressStep limit false active c.1 c.2) k (0, true)
    let held := Nat.iterate (fun c : Nat × Bool => longPressStep limit false active c.1 c.2) k (0, false)
    after = (min limit k, true) ∧
      (isLongPress limit false active after.1 after.2 = true ↔ k + 1 = limit) ∧
    held = (0, false) ∧ isLongPress limit false active held.1 held.2 = false) ∧
  (∀ (s : State) (counts : Six (BitVec 12)) (levels : Twelve Bool) (order : List SampleTurn), s.seq.phase ≠ .offline →
    let limit := 3000 / s.cfg.samplePeriod
    let before := s.input.debounce
    let after := twelveZip debounceStep before levels
    let reports := (s.eventOf levels).panel
    ∃ t, exec (.sampleEvent counts levels order) s = .next t ∧
      t = runTurns (turnsOf order) (s.sampleInputs counts levels) (s.eventOf levels) ∧ t.input.debounce = after ∧
      (reports.start = true ↔ before.start.stable = .inactive ∧ after.start.stable = .active) ∧
      (reports.stop = true ↔ before.stop.stable = .inactive ∧ after.stop.stable = .active) ∧
      (reports.reset = true ↔ before.reset.stable = .inactive ∧ after.reset.stable = .active) ∧
      (reports.reset = true → t.input.longPress = 0 ∧ t.input.resetHeld = true ∧ reports.longPress = false) ∧
      (after.reset.stable ≠ .active →
        t.input.longPress = 0 ∧ t.input.resetHeld = false ∧ reports.longPress = false) ∧
      (after.reset.stable = .active → reports.reset = false → t.input.resetHeld = s.input.resetHeld ∧
        (s.input.resetHeld = false → t.input.longPress = s.input.longPress ∧ reports.longPress = false) ∧
        (s.input.resetHeld = true → t.input.longPress = min limit (s.input.longPress + 1) ∧
          (reports.longPress = true ↔ s.input.longPress + 1 = limit))))

/-- R13: the table of character arrivals, with the receiver accepting (R12). -/
def Obligations.CharacterArrivalFollowsItsTable : Prop :=
  ∀ (s : State) (code : Byte), s.input.receiver = .accepting →
    exec (.characterArrival code false) s = .next { s with input := { s.input with discard := true } } ∧
    (0x20 ≤ code.toNat → code.toNat ≤ 0x7E →
      (s.input.discard = false → s.input.buffer.length < 12 →
        exec (.characterArrival code true) s =
          .next { s with input := { s.input with buffer := s.input.buffer ++ [code] } }) ∧
      (s.input.discard = false → 12 ≤ s.input.buffer.length →
        exec (.characterArrival code true) s = .next { s with input := { s.input with discard := true } }) ∧
      (s.input.discard = true → exec (.characterArrival code true) s = .next s)) ∧
    exec (.characterArrival 0x0A#8 true) s = .next s ∧
    (s.input.discard = false → s.input.buffer ≠ [] → exec (.characterArrival 0x0D#8 true) s =
      .next { s with input := { s.input with identity := s.input.buffer, buffer := [] } }) ∧
    (s.input.discard = false → s.input.buffer = [] → exec (.characterArrival 0x0D#8 true) s = .next s) ∧
    (s.input.discard = true → exec (.characterArrival 0x0D#8 true) s =
      .next { s with input := { s.input with buffer := [], discard := false } }) ∧
    ((code.toNat < 0x20 ∨ 0x7E < code.toNat) → code ≠ 0x0A#8 → code ≠ 0x0D#8 →
      exec (.characterArrival code true) s = .next { s with input := { s.input with discard := true } })

/-- PULSE_EDGE, TAGIN_IDLE_WAIT_DONE, UPTIME_SECOND: one count, one change of the receiver, one second (R6, R12, R168). -/
def Obligations.SmallEventsCountOne : Prop :=
  ∀ s : State,
    (s.seq.phase ≠ .offline → exec (.pulseEdge .liquid) s = .next
      { s with input := { s.input with liquidPulses := min 1023 (s.input.liquidPulses + 1) } }) ∧
    (s.seq.phase ≠ .offline → exec (.pulseEdge .vapour) s = .next
      { s with input := { s.input with vapourPulses := min 1023 (s.input.vapourPulses + 1) } }) ∧
    (s.seq.phase = .offline → ∀ m, exec (.pulseEdge m) s = .next s) ∧
    (s.input.receiver = .waiting → exec .taginIdleWaitDone s = .next
      { s with input := { s.input with receiver := .accepting } }) ∧
    (s.resetting ≠ some .por → exec .uptimeSecond s = .next
      { s with ticket := { s.ticket with uptime := min 4294967295 (s.ticket.uptime + 1) } })

/-! ## The unloading sequence -/

/-- R22, R23, R46: a START press in "IDLE" (without a STOP, R21) is refused with the code of the first failing condition, and
a refusal changes nothing but the temporary code; with all seven conditions it is taken into "CHECK", where a fresh
check begins with the valves closed and no ticket opened. That the temporary code timer is idle then is assumption 22. -/
def Obligations.StartIsJudgedInOrder : Prop :=
  ∀ (s : State) (p : PanelReports), s.seq.phase = .idle → p.start = true → p.stop = false →
    let conditions : List (Bool × Code) := [
      (s.armsCoupled, .na),
      (s.groundOk, .ng),
      (s.trip.list.isEmpty && s.trip.latched.isEmpty && !s.line.outgoing.contains .clear, .nt),
      (s.peers.all (fun r => !(r.cls == .station && r.signature == .mismatch && r.liveness != .lapsed)), .ns),
      (decide (s.ticket.store.length < 4), .nf),
      (sixAll (fun r => r.status != .fail) s.input.sensors, .nc),
      (s.cfg.identityRequired != 1 || !s.input.identity.isEmpty, .ni)]
    (∀ c, conditions.find? (fun x => !x.1) = some c → s.panelWork p =
      ({ s with seq := { s.seq with tempCode := some c.2, tempTimer := some 0 } }, false)) ∧
    (conditions.find? (fun x => !x.1) = none → ∃ t, s.panelWork p = (t, true) ∧
      Untouched [.seq, .check, .det, .valve, .line, .share, .ticket] s t ∧
      t.seq = { s.seq with phase := .check, tempCode := none, tempTimer := none } ∧
      t.check = ⟨.baseline, 0, ⟨0, 0, 0⟩, ⟨none, none, none⟩, ⟨none, none, none⟩, none, none, none⟩ ∧
      t.drives = ⟨false, 0, 0, false⟩ ∧ t.ticket = { s.ticket with meterMarker := false })

/-- R21, the table of the presses, with R25, R27, R30, R33 and R35 for what a STOP does in each phase. A STOP wins over a
START. START alone is taken in "IDLE" and "HOLD" alone, RESET press and long press in "TRIPPED" alone, where START and STOP
are ignored; where the table says "ignored" nothing changes. -/
def Obligations.PressesActByPhase : Prop :=
  ∀ (s : State) (p : PanelReports),
    (p.stop = true →
      (s.seq.phase = .push ∨ s.seq.phase = .recover → ∃ t, s.panelWork p = (t, false) ∧
        Untouched [.seq, .det, .valve, .line, .share, .ticket] s t ∧
        t.seq.phase = .hold ∧ t.seq.reason = some .operator ∧
        t.seq.held = (if s.seq.phase = .push then some .push else some .recover) ∧
        t.seq.residual = 0 ∧ t.seq.recoveryTimer = none ∧ t.seq.stopped = s.seq.stopped ∧
        t.ticket.current = noted .hold 1 s.ticket ∧ t.drives = ⟨false, 0, 0, false⟩ ∧
        t.det.throttle = s.det.throttle ∧ t.valve.trim = s.valve.trim ∧ (∀ q, t.share.grant.get q = 0)) ∧
      (s.seq.phase = .hold → ∃ t, s.panelWork p = (t, false) ∧
        Untouched [.seq, .det, .valve, .line, .share, .ticket] s t ∧
        t.seq.phase = .close ∧ t.seq.stopped = true ∧ t.seq.held = none ∧ t.seq.reason = none ∧
        t.seq.closeStep = (if s.valve.allClosed = true then .bleeding else .shutting) ∧
        t.drives = ⟨false, 0, 0, s.valve.allClosed⟩ ∧ t.ticket.current = s.ticket.current) ∧
      (s.seq.phase = .check → ∃ t, s.panelWork p = (t, false) ∧
        t.seq.phase = .idle ∧ t.seq.tempCode = none ∧ t.check.step = .inactive ∧ t.check.baseline = none ∧
        t.check.timer = none ∧ t.trip = s.trip ∧ t.ticket.current = s.ticket.current) ∧
      (s.seq.phase = .idle ∨ s.seq.phase = .drain ∨ s.seq.phase = .close ∨ s.seq.phase = .offline →
        s.panelWork p = (s, false)) ∧
      (s.seq.phase = .tripped → p.reset = false → p.longPress = false → s.panelWork p = (s, false))) ∧
    (p.stop = false → s.seq.phase ≠ .idle → s.seq.phase ≠ .hold → s.seq.phase ≠ .tripped → s.panelWork p = (s, false)) ∧
    (p.stop = false → p.start = false → s.seq.phase ≠ .tripped → s.panelWork p = (s, false)) ∧
    (s.seq.phase ≠ .tripped → ∀ reset longPress,
      s.panelWork { p with reset := reset, longPress := longPress } = s.panelWork p) ∧
    (s.seq.phase = .tripped → ∀ start stop, s.panelWork { p with start := start, stop := stop } = s.panelWork p) ∧
    (s.seq.phase = .tripped → p.reset = false → p.longPress = false → s.panelWork p = (s, false)) ∧
    (p.stop = true → ∀ start, s.panelWork { p with start := start } = s.panelWork p)

/-- R34: START in "HOLD" writes RESUME with the held phase's code and begins the held phase afresh; throttle level, trim,
baseline and stopped marker are kept. A resumed "PUSH" has no starvation timer, and its liquid-out detection begins
from nothing. -/
def Obligations.StartResumesTheHeldPhase : Prop :=
  ∀ (s : State) (p : PanelReports) (h : HeldPhase), PushQuiet s → s.seq.phase = .hold → s.seq.held = some h →
    p.start = true → p.stop = false →
    ∃ t, s.panelWork p = (t, false) ∧
      Untouched [.seq, .det, .valve, .line, .share, .ticket] s t ∧
      t.seq.phase = h.phase ∧ t.seq.held = none ∧ t.seq.reason = none ∧ t.seq.stopped = s.seq.stopped ∧
      t.ticket.current = noted .resume (match h with | .push => 3 | .drain => 4 | .recover => 5 | .close => 6) s.ticket ∧
      t.det.throttle = s.det.throttle ∧ t.det.clearTimer = s.det.clearTimer ∧ t.valve.trim = s.valve.trim ∧
      (h = .drain → t.seq.drainStep = .draining ∧ t.seq.drainTimer = some 0 ∧ t.valve.lvCommand = .opened) ∧
      (h = .recover → t.seq.residual = 0 ∧ t.seq.recoveryTimer = some 0 ∧ t.valve.lvCommand = .closed) ∧
      (h = .push → t.valve.lvCommand = .opened ∧ t.share.starvation = none ∧ t.det.stage = .counting ∧
        t.det.lowCount = 0 ∧ t.det.confirmTimer = none) ∧
      (h = .close → t.valve.lvCommand = .closed ∧
        t.seq.closeStep = (if s.valve.allClosed = true then .bleeding else .shutting))

/-- DRAIN_TIMER_EXPIRY, RECOVERY_TIMER_EXPIRY, TEMPORARY_CODE_TIMER_EXPIRY, BLEED_TIMER_EXPIRY with the timer at its limit
(R17, R28, R29, R43, R31, R32), and what the sequence controller does at a sample event: the residual count of R29, whose
fifth sample in a row ends "RECOVER" with note EMPTY 1; LV confirmed closed in drain step "SHUTTING" (R28 (2)); all three
valves confirmed closed in close step "SHUTTING" (R31 (1)); and both arms "INACTIVE", which ends "RELEASING" with the
ticket closed as "STOPPED" or "COMPLETE" and the phase "IDLE" (R31 (3), R32) and closes a ticket open in "TRIPPED" (R38).
The bleed timer closes BV, and with both arms "INACTIVE" by then "RELEASING" ends at once. That an expired drain,
bleed or temporary code timer is idle afterwards, and the drain and recovery timers at the entry into "CLOSE", is
assumption 22; what the
residual count holds in "CLOSE" is assumption 12. -/
def Obligations.SequenceAdvancesAtTimersAndSamples : Prop :=
  ∀ (s : State) (n : Nat),
    let closes := fun t : State =>
      Untouched [.seq, .det, .valve, .line, .share, .ticket] s t ∧ t.seq.phase = .close ∧
      t.seq.stopped = s.seq.stopped ∧ t.seq.drainTimer = none ∧ t.seq.recoveryTimer = none ∧
      t.seq.closeStep = (if s.valve.allClosed = true then .bleeding else .shutting) ∧
      t.seq.bleedTimer = (if s.valve.allClosed = true then some 0 else none) ∧
      t.drives = ⟨false, 0, 0, s.valve.allClosed⟩ ∧ (∀ q, t.share.grant.get q = 0)
    let releases := fun (k : Ticket) (t : State) =>
      t.seq.phase = .idle ∧ t.drives = ⟨false, 0, 0, false⟩ ∧ t.check.baseline = none ∧ t.input.identity = [] ∧
      t.trip = s.trip ∧ t.peers = s.peers ∧ t.loader = s.loader ∧
      t.ticket.current = none ∧ t.ticket.store = s.ticket.store ++
        [{ k with
            closeTime := some s.ticket.uptime
            finalThrottle := some s.det.throttle
            endReason := some (if s.seq.stopped = true then .stopped else .complete) }]
    let low := s.input.sensors.pCar.value ≤ (s.cfg.pRes : Int)
    (s.seq.phase = .drain → s.seq.drainTimer = some n → 10 * s.cfg.drainTime ≤ n →
      ∃ t, exec .drainTimerExpiry s = .next t ∧ Untouched [.seq, .valve] s t ∧
        t.seq = { s.seq with drainStep := .shutting, drainTimer := none } ∧
        t.drives = ⟨false, 0, 0, false⟩ ∧
        t.valve.lv = (if s.valve.lvCommand = .opened then ⟨.closing, some 0⟩ else s.valve.lv)) ∧
    (s.seq.phase = .recover → s.seq.recoveryTimer = some n → 10 * s.cfg.recoveryLimit ≤ n →
      ∃ t, exec .recoveryTimerExpiry s = .next t ∧ closes t ∧ t.ticket.current = noted .empty 2 s.ticket) ∧
    (s.seq.tempTimer = some n → 50 ≤ n → exec .temporaryCodeTimerExpiry s = .next
      { s with seq := { s.seq with tempCode := none, tempTimer := none } }) ∧
    (s.seq.phase = .close → s.seq.bleedTimer = some n → 10 * s.cfg.bleedTime ≤ n →
      (s.armsUncoupled = false → ∃ t, exec .bleedTimerExpiry s = .next t ∧ Untouched [.seq, .valve] s t ∧
        t.seq = { s.seq with closeStep := .releasing, bleedTimer := none } ∧ t.drives = ⟨false, 0, 0, false⟩) ∧
      (s.armsUncoupled = true → ∀ k, s.ticket.current = some k → ∃ t, exec .bleedTimerExpiry s = .next t ∧
        releases k t)) ∧
    (s.seq.phase = .recover →
      (low → s.seq.residual < 4 → s.residualWork = { s with seq := { s.seq with residual := s.seq.residual + 1 } }) ∧
      (low → 4 ≤ s.seq.residual → closes s.residualWork ∧
        s.residualWork.ticket.current = noted .empty 1 s.ticket ∧ s.residualWork.seq.residual = 5) ∧
      (¬ low → s.residualWork = { s with seq := { s.seq with residual := 0 } })) ∧
    (s.seq.phase ≠ .recover → s.residualWork = s) ∧
    (s.seq.phase = .drain → s.seq.drainStep = .shutting →
      let t := s.takeReport .lvClosed
      t.ticket.current = s.ticket.current ∧ (s.cfg.capacity.ret = 0 → closes t) ∧
      (0 < s.cfg.capacity.ret → Untouched [.seq, .det, .valve, .line, .share, .ticket] s t ∧
        t.seq.phase = .recover ∧ t.seq.residual = 0 ∧ t.seq.recoveryTimer = some 0 ∧
        t.seq.stopped = s.seq.stopped ∧ t.drives.lv = false ∧ t.drives.sv = 0 ∧ t.drives.bv = false ∧
        t.drives.rv ≤ s.drives.rv ∧ t.share.grant.supply = 0 ∧ t.share.grant.header = 0)) ∧
    (s.seq.phase ≠ .drain ∨ s.seq.drainStep ≠ .shutting → s.takeReport .lvClosed = s) ∧
    (s.seq.phase = .close → s.seq.closeStep = .shutting → s.valve.allClosed = true →
      let t := s.takeReport .allClosed
      Untouched [.seq, .valve] s t ∧ t.seq = { s.seq with closeStep := .bleeding, bleedTimer := some 0 } ∧
      t.drives = ⟨false, 0, 0, true⟩) ∧
    (s.seq.phase ≠ .close ∨ s.seq.closeStep ≠ .shutting ∨ s.valve.allClosed = false → s.takeReport .allClosed = s) ∧
    (∀ k, s.ticket.current = some k → s.armsUncoupled = true →
      (s.seq.phase = .close → s.seq.closeStep = .releasing → releases k s.armsWork) ∧
      (s.seq.phase = .tripped → s.armsWork = { s with
        seq := { s.seq with held := none, stopped := false }
        check := { s.check with baseline := none }
        det := { s.det with driftCount := 0 }
        ticket := { s.ticket with
          current := none
          store := s.ticket.store ++ [{ k with
            closeTime := some s.ticket.uptime, finalThrottle := some s.det.throttle, endReason := some .tripped }] } })) ∧
    (s.armsUncoupled = false ∨ (s.seq.phase ≠ .close ∧ s.seq.phase ≠ .tripped) ∨
      (s.seq.phase = .close ∧ s.seq.closeStep ≠ .releasing) ∨ (s.seq.phase = .tripped ∧ s.ticketOpen = false) →
      s.armsWork = s)

/-- R42, R44, section 2.13: what the display and the lamps show at every moment: blank in a reset, the loader cause or "OF" in
"OFFLINE", else the temporary code that is set or the code of the phase; each lamp lit in its phases, ISLAND in ISLAND, and
all dark in "OFFLINE", which a reset is. R43: a temporary code that is set is shown from then on with its timer from 0, and a
phase change removes it; that its timer is idle then is assumption 22. -/
def Obligations.DisplayAndLampsShowTheState : Prop :=
  (∀ x ∈ [(Phase.offline, "OF"), (.idle, "ID"), (.check, "CK"), (.push, "PU"), (.drain, "DR"), (.recover, "RC"),
      (.close, "CL"), (.hold, "HO"), (.tripped, "TR")], x.1.display.chars = x.2) ∧
  (∀ x ∈ [(Cause.esd, "E1"), (.gas, "E2"), (.brk, "E3"), (.drift, "E4"), (.excess, "E5"), (.valve, "E6"),
      (.sensor, "E7"), (.ground, "E8"), (.uncouple, "E9"), (.conflict, "EA"), (.unknown, "EU")],
    (causeCode x.1).chars = x.2) ∧
  (∀ x ∈ [(Code.na, "NA"), (.ng, "NG"), (.nt, "NT"), (.ns, "NS"), (.nf, "NF"), (.nc, "NC"), (.ni, "NI"),
      (.fa, "FA"), (.fb, "FB"), (.fl, "FL"), (.lm, "LM"), (.lc, "LC"), (.lr, "LR"), (.lt, "LT")], x.1.chars = x.2) ∧
  (∀ (set : SidingSet) (s : State) (p : Phase) (c : Code),
    ((EntryCauses.known set).first = if set.esd then .esd else if set.gas then .gas else if set.brk then .brk
      else if set.drift then .drift else .unknown) ∧ EntryCauses.unknown.first = .unknown ∧
    (s.resetting ≠ none → s.display = .blank) ∧
    (s.resetting = none → s.seq.phase = .offline →
      (∀ cause, s.loader.cause = some cause → s.display = .shows cause) ∧
      (s.loader.cause = none → s.display = .shows .of)) ∧
    (s.resetting = none → s.seq.phase ≠ .offline →
      (∀ code, s.seq.tempCode = some code → s.display = .shows code) ∧
      (s.seq.tempCode = none → s.display = .shows s.seq.phase.display) ∧
      (s.setTempCode c).display = .shows c ∧
      (p ≠ .offline → (s.enterPhase p).display = .shows p.display)) ∧
    (s.setTempCode c).seq.tempTimer = some 0 ∧ (s.enterPhase p).seq.tempTimer = none ∧
    (s.lamps.run = true ↔ s.seq.phase = .push ∨ s.seq.phase = .drain ∨ s.seq.phase = .recover) ∧
    (s.lamps.hold = true ↔ s.seq.phase = .hold) ∧ (s.lamps.trip = true ↔ s.seq.phase = .tripped) ∧
    (s.lamps.island = true ↔ s.seq.phase ≠ .offline ∧ s.share.island = .island) ∧
    (OfflineQuiet s → s.resetting ≠ none → s.lamps = ⟨false, false, false, false⟩))

/-! ## The pre-transfer check -/

/-- The check unit at a sample event in "CHECK" (R47 to R50): a lost ground or arm ends the check with "FA" and an axis spread
above its threshold with "FB", latching nothing; sixteen samples complete the baseline, each sum divided by 16 toward
zero, and begin the hold test with the pressures of that sample. With steady readings the baseline is those readings.
That a failed check leaves every item at its reset value is assumption 12. -/
def Obligations.BaselineIsTakenOverSixteenSamples : Prop :=
  ∀ s : State, s.seq.phase = .check →
    let c := s.check
    let p := s.input.sensors
    let connected := s.groundOk = true ∧ s.armsCoupled = true
    let least := fun (v : Int) (m : Option Int) => match m with | none => v | some w => min v w
    let most := fun (v : Int) (m : Option Int) => match m with | none => v | some w => max v w
    let tooFar := (s.cfg.driftThreshold.x : Int) < most p.x.value c.maxs.x - least p.x.value c.mins.x ∨
      (s.cfg.driftThreshold.y : Int) < most p.y.value c.maxs.y - least p.y.value c.mins.y ∨
      (s.cfg.driftThreshold.z : Int) < most p.z.value c.maxs.z - least p.z.value c.mins.z
    let sums : Axes Int := ⟨c.sums.x + p.x.value, c.sums.y + p.y.value, c.sums.z + p.z.value⟩
    let fails := fun code : Code => ∃ t, s.checkWork = (t, false) ∧
      Untouched [.input, .seq, .check, .det, .valve, .line, .share, .ticket] s t ∧
      t.seq.phase = .idle ∧ t.seq.tempCode = some code ∧ t.seq.tempTimer = some 0 ∧ t.drives = ⟨false, 0, 0, false⟩ ∧
      t.check = ⟨.inactive, 0, ⟨0, 0, 0⟩, ⟨none, none, none⟩, ⟨none, none, none⟩, none, none, none⟩ ∧
      t.ticket.current = s.ticket.current ∧ t.ticket.store = s.ticket.store
    (c.step ≠ .inactive → ¬ connected → fails .fa) ∧
    (c.step = .holdTest → connected → s.checkWork = (s, false)) ∧
    (c.step = .baseline → connected → tooFar → fails .fb) ∧
    (c.step = .baseline → connected → ¬ tooFar → c.count < 15 → s.checkWork = ({ s with check := { c with
      count := c.count + 1
      sums := sums
      mins := ⟨some (least p.x.value c.mins.x), some (least p.y.value c.mins.y), some (least p.z.value c.mins.z)⟩
      maxs := ⟨some (most p.x.value c.maxs.x), some (most p.y.value c.maxs.y), some (most p.z.value c.maxs.z)⟩ } },
      false)) ∧
    (c.step = .baseline → connected → ¬ tooFar → 15 ≤ c.count → s.checkWork = ({ s with check := ⟨.holdTest, c.count + 1,
      ⟨0, 0, 0⟩, ⟨none, none, none⟩, ⟨none, none, none⟩, some ⟨p.pCar.value, p.pLiq.value⟩, some 0,
      some ⟨sums.x.tdiv 16, sums.y.tdiv 16, sums.z.tdiv 16⟩⟩ }, true)) ∧
    (c = ⟨.baseline, 0, ⟨0, 0, 0⟩, ⟨none, none, none⟩, ⟨none, none, none⟩, none, none, none⟩ → connected →
      (∀ k, k ≤ 15 → (Nat.iterate (fun u => u.checkWork.1) k s).check.step = .baseline ∧
        (Nat.iterate (fun u => u.checkWork.1) k s).check.count = k) ∧
      (Nat.iterate (fun u => u.checkWork.1) 16 s).check.step = .holdTest ∧
      (Nat.iterate (fun u => u.checkWork.1) 16 s).check.baseline = some ⟨p.x.value, p.y.value, p.z.value⟩)

/-- CHECK_TIMER_EXPIRY (R51, R52, R53, R24, R75, R84): the falls of P_car and P_liq decide between the pass, which opens a
ticket, keeps the baseline and makes the phase "PUSH", and the failure "FL", which discards the check. That a pass keeps
the sample count, sums and extremes, and that a failure leaves every item at its reset value, is assumption 12. -/
def Obligations.HoldTestPassesOrFails : Prop :=
  ∀ (s : State) (p : Pressures) (n : Nat), s.seq.phase = .check → s.check.step = .holdTest →
    s.check.timer = some n → 10 * s.cfg.holdTime ≤ n →
    s.check.start = some p →
    (p.pCar - s.input.sensors.pCar.value ≤ (s.cfg.leakTolerance : Int) →
      p.pLiq - s.input.sensors.pLiq.value ≤ (s.cfg.leakTolerance : Int) →
      ∃ t, exec .checkTimerExpiry s = .next t ∧
        Untouched [.seq, .check, .det, .valve, .line, .share, .ticket] s t ∧
        t.seq.phase = .push ∧ t.seq.stopped = false ∧ t.seq.tempCode = none ∧
        t.check = { s.check with step := .inactive, start := none, timer := none } ∧
        t.det.throttle = 0 ∧ t.det.flashCount = 0 ∧ t.det.clearTimer = none ∧ t.valve.trim = 0 ∧
        t.valve.lvCommand = .opened ∧ t.valve.bvCommand = .closed ∧
        ∃ k, t.ticket.current = some k ∧ k.station = s.loader.ownAddress ∧ k.identity = s.input.identity ∧
          k.openTime = s.ticket.uptime ∧ k.closeTime = none ∧ k.delivered = 0 ∧ k.recovered = 0 ∧ k.peak = 0 ∧
          k.finalThrottle = none ∧ k.endReason = none ∧ k.notes = [] ∧ k.overflow = false ∧
          t.ticket.store = s.ticket.store) ∧
    ((s.cfg.leakTolerance : Int) < p.pCar - s.input.sensors.pCar.value ∨
        (s.cfg.leakTolerance : Int) < p.pLiq - s.input.sensors.pLiq.value →
      ∃ t, exec .checkTimerExpiry s = .next t ∧
        Untouched [.input, .seq, .check, .det, .valve, .line, .share, .ticket] s t ∧
        t.seq = ⟨.idle, none, none, false, .draining, none, 0, none, .shutting, none, some .fl, some 0⟩ ∧
        t.check = ⟨.inactive, 0, ⟨0, 0, 0⟩, ⟨none, none, none⟩, ⟨none, none, none⟩, none, none, none⟩ ∧
        t.input.identity = [] ∧ t.drives = ⟨false, 0, 0, false⟩ ∧
        t.ticket = { s.ticket with meterMarker := false })

/-- R169: the pass takes the next ticket number, or the first free number after it, and the next number follows the one
taken, 65535 being followed by 1. -/
def Obligations.NewTicketTakesTheFirstFreeNumber : Prop :=
  ∀ (s t : State), NumbersDiffer s → s.seq.phase = .check → exec .checkTimerExpiry s = .next t →
    ∀ k, t.ticket.current = some k →
      let follow := fun n : Nat => if n = 65535 then 1 else n + 1
      k.number ∉ s.ticket.store.map Ticket.number ∧ t.ticket.nextNumber = follow k.number ∧
      ∃ skips, skips ≤ 3 ∧ k.number = Nat.iterate follow skips s.ticket.nextNumber ∧
        ∀ j, j < skips → Nat.iterate follow j s.ticket.nextNumber ∈ s.ticket.store.map Ticket.number

/-! ## The transfer detectors -/

/-- CONFIRM_TIMER_EXPIRY (R63, R64, R26): in "PUSH" the note EMPTY 0 is written, the detection ends and the phase becomes
"DRAIN"; in any other phase the report is not made. STARVATION_TIMER_EXPIRY (R145, R27): in "PUSH" the phase becomes
"HOLD" with reason "STARVED" and note HOLD 2, the throttle level and the trim kept.
CLEAR_TIMER_EXPIRY (R74): in "PUSH" above level 0, with the timer at the clear time, the throttle level falls by one with
note RESTORE; the timer starts again above the new level 0 and is idle at it. A timer that a flashing sample has
restarted has not expired, and the command then does nothing (assumption 4). That the temporary code timer is idle at the
entry into "DRAIN" is assumption 22. -/
def Obligations.PushTimersExpire : Prop :=
  ∀ (s : State) (n : Nat),
    (s.det.stage = .waiting → s.det.confirmTimer = some n → s.cfg.confirmWait ≤ n →
      (s.seq.phase = .push → ∃ t, exec .confirmTimerExpiry s = .next t ∧
        Untouched [.seq, .det, .valve, .line, .share, .ticket] s t ∧
        t.seq = { s.seq with
          phase := .drain, drainStep := .draining, drainTimer := some 0, tempCode := none, tempTimer := none } ∧
        t.det = { s.det with stage := .counting, lowCount := 0, confirmTimer := none, flashCount := 0 } ∧
        t.ticket.current = noted .empty 0 s.ticket ∧ t.share.starvation = none ∧ (∀ q, t.share.grant.get q = 0) ∧
        t.valve.lvCommand = .opened ∧ t.drives.sv = 0 ∧ t.drives.rv = 0) ∧
      (s.seq.phase ≠ .push → exec .confirmTimerExpiry s = .next s)) ∧
    (s.share.starvation = some n → s.cfg.starveLimit ≤ n → s.seq.phase = .push → ∃ t, exec .starvationTimerExpiry s = .next t ∧
      Untouched [.seq, .det, .valve, .line, .share, .ticket] s t ∧
      t.seq.phase = .hold ∧ t.seq.held = some .push ∧ t.seq.reason = some .starved ∧
      t.share.starvation = none ∧ (∀ q, t.share.grant.get q = 0) ∧
      t.ticket.current = noted .hold 2 s.ticket ∧ t.drives = ⟨false, 0, 0, false⟩ ∧
      t.det.throttle = s.det.throttle ∧ t.det.clearTimer = s.det.clearTimer ∧ t.det.stage = .counting ∧
      t.valve.trim = s.valve.trim) ∧
    (s.seq.phase = .push → s.det.clearTimer = some n → 0 < s.det.throttle →
      (10 * s.cfg.clearTime ≤ n → ∃ t, exec .clearTimerExpiry s = .next t ∧ Untouched [.det, .line, .ticket] s t ∧
        t.det = { s.det with
          throttle := s.det.throttle - 1, clearTimer := if s.det.throttle - 1 = 0 then none else some 0 } ∧
        t.ticket = { s.ticket with current := noted .restore (s.det.throttle - 1) s.ticket } ∧
        t.line.state = s.line.state ∧ t.line.inFlight = s.line.inFlight ∧ t.line.lastAnnounced = s.line.lastAnnounced) ∧
      (n < 10 * s.cfg.clearTime → exec .clearTimerExpiry s = .next s))

/-- R60 to R64, the liquid-out detector at a sample event. In "PUSH" alone the detector unit runs it. A suspended sample
(R60), and one that is not low, in "COUNTING" (R61) and in "WAITING" (R63), begin the detection again from nothing; a low
sample in "WAITING" leaves the wait as it is. Unsuspended low samples with the same readings count up by one each, and
change nothing else, until the empty count; at the empty count far pressures start the count again, and close ones begin
the wait, or confirm where the confirm wait is 0. -/
def Obligations.LowSamplesCountToTheEmptyCount : Prop :=
  ∀ (s : State) (d : DetectorUnit),
    let suspended := s.share.grant.supply = 0 ∨ s.share.grant.header = 0 ∨ s.valve.trim = 1000
    let low := s.input.flow < s.cfg.emptyFlow
    let close := |s.input.sensors.pCar.value - s.input.sensors.pLiq.value| ≤ (s.cfg.vapourBand : Int)
    let again := { d with stage := .counting, lowCount := 0, confirmTimer := none }
    (∀ fresh : Bool, let t := (s.detectorWork fresh).1
      (s.seq.phase = .push → t.det.stage = (s.liquidJudge s.det).stage ∧
        t.det.lowCount = (s.liquidJudge s.det).lowCount ∧ t.det.confirmTimer = (s.liquidJudge s.det).confirmTimer ∧
        (.confirm ∈ (s.detectorWork fresh).2 ↔ s.liquidConfirms s.det = true)) ∧
      (s.seq.phase ≠ .push → t.det.stage = s.det.stage ∧ t.det.lowCount = s.det.lowCount ∧
        t.det.confirmTimer = s.det.confirmTimer ∧ .confirm ∉ (s.detectorWork fresh).2)) ∧
    (suspended → s.liquidJudge d = again ∧ s.liquidConfirms d = false) ∧
    (¬ low → s.liquidJudge d = again ∧ s.liquidConfirms d = false) ∧
    (¬ suspended → low → d.stage = .waiting → s.liquidJudge d = d ∧ s.liquidConfirms d = false) ∧
    (d.stage = .counting → d.lowCount = 0 → ¬ suspended → low →
      (∀ k, k < s.cfg.emptyCount → Nat.iterate s.liquidJudge k d = { d with lowCount := k } ∧
        (s.liquidConfirms { d with lowCount := k } = true ↔
          k + 1 = s.cfg.emptyCount ∧ close ∧ s.cfg.confirmWait = 0)) ∧
      (0 < s.cfg.emptyCount → ¬ close → Nat.iterate s.liquidJudge s.cfg.emptyCount d = d) ∧
      (0 < s.cfg.emptyCount → close →
        (0 < s.cfg.confirmWait → Nat.iterate s.liquidJudge s.cfg.emptyCount d =
          { d with lowCount := s.cfg.emptyCount, stage := .waiting, confirmTimer := some 0 }) ∧
        (s.cfg.confirmWait = 0 → s.liquidConfirms (Nat.iterate s.liquidJudge (s.cfg.emptyCount - 1) d) = true)))

/-- The detector unit's work at a sample event (R59, R66, R68, R69, R72, R73, R76, R77): the excess count and EXCESS, the
surge window and BREAK, the flashing count, the clear timer and the episodes, the drift count and DRIFT, each in its
phases; then what a taken episode does. From a start sample on, with no new start and no end, the window stays open
through its samples and is armed again at the surge window-th sample event after the start. -/
def Obligations.DetectorsJudgeEachSample : Prop :=
  ∀ (s : State) (fresh : Bool),
    let t := (s.detectorWork fresh).1
    let reports := (s.detectorWork fresh).2
    let d := s.det
    let p := s.input.sensors
    let drawing := s.seq.phase = .push ∨ s.seq.phase = .drain
    let starts := ∃ v, d.previousPLiq = some v ∧ (s.cfg.surgeDrop : Int) < v - p.pLiq.value
    let open_ := starts ∨ d.surge = .window
    let count := if d.previousPLiq.any (fun v => decide ((s.cfg.surgeDrop : Int) < v - p.pLiq.value)) = true then 0
      else d.windowCount
    let low := p.pLiq.value < (s.cfg.breakPressure : Int)
    let flashing := p.pLiq.value < (saturationAt s.cfg.saturation p.tLiq.value : Int) + (s.cfg.flashMargin : Int)
    let episode := s.seq.phase = .push ∧ flashing ∧ s.cfg.flashCount ≤ d.flashCount + 1
    let out := fun b : Axes Int => s.cfg.driftThreshold.x < (p.x.value - b.x).natAbs ∨
      s.cfg.driftThreshold.y < (p.y.value - b.y).natAbs ∨ s.cfg.driftThreshold.z < (p.z.value - b.z).natAbs
    let drifts := (s.seq.phase = .check ∧ s.check.step = .holdTest ∧ fresh = false) ∨ drawing ∨
      s.seq.phase = .recover ∨ s.seq.phase = .close ∨ s.seq.phase = .hold ∨
      (s.seq.phase = .tripped ∧ s.ticketOpen = true)
    Untouched [.det] s t ∧ t.det.throttle = d.throttle ∧
    (.cause .excess ∈ reports ↔ drawing ∧ s.cfg.excessLimit < s.input.flow ∧ s.cfg.excessCount ≤ d.excessCount + 1) ∧
    (drawing → t.det.excessCount =
      if s.cfg.excessLimit < s.input.flow ∧ d.excessCount + 1 < s.cfg.excessCount then d.excessCount + 1 else 0) ∧
    (.cause .brk ∈ reports ↔ drawing ∧ open_ ∧ low) ∧
    (drawing → t.det.previousPLiq = some p.pLiq.value ∧
      (¬ open_ → t.det.surge = d.surge ∧ t.det.windowCount = d.windowCount) ∧
      (open_ → low ∨ s.cfg.surgeWindow ≤ count → t.det.surge = .armed ∧ t.det.windowCount = 0) ∧
      (open_ → ¬ low → count < s.cfg.surgeWindow → t.det.surge = .window ∧ t.det.windowCount = count + 1)) ∧
    (.throttle ∈ reports ↔ episode ∧ d.throttle < s.cfg.maxThrottle) ∧
    (.hold ∈ reports ↔ episode ∧ s.cfg.maxThrottle ≤ d.throttle) ∧
    (s.seq.phase = .push →
      (¬ flashing → t.det.flashCount = 0 ∧ t.det.clearTimer = d.clearTimer) ∧
      (flashing → t.det.flashCount = (if s.cfg.flashCount ≤ d.flashCount + 1 then 0 else d.flashCount + 1) ∧
        t.det.clearTimer = if 0 < d.throttle then some 0 else none)) ∧
    (∀ b, s.check.baseline = some b → drifts →
      (out b → t.det.driftCount = min s.cfg.driftCount (d.driftCount + 1) ∧
        (.cause .drift ∈ reports ↔ s.cfg.driftCount ≤ d.driftCount + 1)) ∧
      (¬ out b → t.det.driftCount = 0 ∧ .cause .drift ∉ reports)) ∧
    (s.check.baseline = none ∨ ¬ drifts → t.det.driftCount = d.driftCount ∧ .cause .drift ∉ reports) ∧
    ((s.takeReport .throttle).det.throttle = d.throttle + 1 ∧ (s.takeReport .throttle).det.clearTimer = some 0 ∧
      (s.takeReport .throttle).ticket.current = noted .throttle (d.throttle + 1) s.ticket) ∧
    (s.seq.phase = .push → (s.takeReport .hold).seq.phase = .hold ∧ (s.takeReport .hold).seq.held = some .push ∧
      (s.takeReport .hold).seq.reason = some .flashing ∧
      (s.takeReport .hold).ticket.current = noted .hold 3 s.ticket) ∧
    (s.seq.phase ≠ .push → s.takeReport .hold = s) ∧
    (starts → ¬ low → 0 < s.cfg.surgeWindow →
      let window := { d with surge := .window, previousPLiq := some p.pLiq.value }
      (∀ k, 1 ≤ k → k ≤ s.cfg.surgeWindow → Nat.iterate s.surgeJudge k d = { window with windowCount := k }) ∧
      Nat.iterate s.surgeJudge (s.cfg.surgeWindow + 1) d = { window with surge := .armed, windowCount := 0 })

/-- R71: the saturation pressure: the end points, the interpolation between two points with its product within 32 bits, and
its place between them. -/
def Obligations.SaturationPressureFollowsTheTable : Prop :=
  ∀ (table : List Nat) (tLiq : Int), table.length = 11 → (∀ p ∈ table, p ≤ 6000) → table.Pairwise (fun a b => a ≤ b) →
    let P := fun i : Nat => table.getD i 0
    (tLiq ≤ -400 → saturationAt table tLiq = P 0) ∧
    (600 ≤ tLiq → saturationAt table tLiq = P 10) ∧
    (-399 ≤ tLiq → tLiq ≤ 599 → ∀ u i frac : Nat, (u : Int) = tLiq + 400 → i = u / 100 → frac = u - 100 * i →
      saturationAt table tLiq = P i + (P (i + 1) - P i) * frac / 100 ∧
      P i ≤ P (i + 1) ∧ (P (i + 1) - P i) * frac ≤ 594000 ∧
      P i ≤ saturationAt table tLiq ∧ saturationAt table tLiq ≤ P (i + 1)) ∧
    saturationAt table tLiq ≤ 6000

/-! ## The valve drive -/

/-- TRAVEL_TIMER_EXPIRY (R90, R93, R37, R154) with the timer at the valve's travel time: a valve that did not reach its
switch is overdue, VALVE is latched, and the station enters "TRIPPED" with its drives off; an LV that failed to open
then begins a close travel. -/
def Obligations.TravelTimerLatchesValve : Prop :=
  ∀ (s : State) (n : Nat), s.seq.phase ≠ .offline →
    (∀ v : Valve, s.valve.channel v = ⟨.closing, some n⟩ → travelTime s.cfg v ≤ n →
      s.trip.latched.contains .valve = true →
      ∃ t, exec (.travelTimerExpiry v) s = .next t ∧ Untouched [.valve] s t ∧
        t.valve.channel v = ⟨.closeOverdue, none⟩ ∧ t.drives = s.drives) ∧
    (∀ v : Valve, s.valve.channel v = ⟨.closing, some n⟩ → travelTime s.cfg v ≤ n →
      s.trip.latched.contains .valve = false →
      s.valve.lvCommand = .closed ∨ v ≠ .lv → (v = .sv → s.valve.svOpening = 0) → (v = .rv → s.valve.rvOpening = 0) →
      ∃ t, exec (.travelTimerExpiry v) s = .next t ∧ t.seq.phase = .tripped ∧ Cause.valve ∈ t.trip.latched ∧
        t.trip.list = s.trip.list ∧ t.trip.outstanding = s.trip.outstanding ∧
        t.valve.channel v = ⟨.closeOverdue, none⟩ ∧
        (s.seq.phase ≠ .tripped → t.drives = ⟨false, 0, 0, false⟩ ∧ t.seq.tempCode = some .e6) ∧
        t.loader = s.loader ∧ t.input = s.input ∧ t.peers = s.peers) ∧
    (s.valve.lv = ⟨.opening, some n⟩ → s.cfg.lvTravel ≤ n → s.valve.lvCommand = .opened →
      s.trip.latched.contains .valve = false → s.seq.phase ≠ .tripped →
      ∃ t, exec (.travelTimerExpiry .lv) s = .next t ∧ t.seq.phase = .tripped ∧ Cause.valve ∈ t.trip.latched ∧
        t.trip.list = s.trip.list ∧ t.valve.lv = ⟨.closing, some 0⟩ ∧ t.drives = ⟨false, 0, 0, false⟩ ∧
        t.seq.tempCode = some .e6 ∧ t.loader = s.loader ∧ t.input = s.input ∧ t.peers = s.peers)

/-- The valve driver's work at a sample event (R82 to R89, R91, R93): in "PUSH" the trim's step; the SV and RV targets from
the phase, the grants and the trim; each opening toward its target under the slew limit, with its open or close
command; then each valve against its switches, and VALVE reported as R91 says. In "TRIPPED" the supervision alone. What
both switches of LV at once do to a valve that awaits one is assumption 21. -/
def Obligations.ValvesMoveAndAreSupervised : Prop :=
  (∀ (c : Settings) (flow grant trim : Nat),
    (grant < flow → trimStep c flow grant trim = min 1000 (trim + c.trimStep)) ∧
    (flow < grant - grant / 8 → trimStep c flow grant trim = trim - c.trimStep) ∧
    (grant - grant / 8 ≤ flow → flow ≤ grant → trimStep c flow grant trim = trim) ∧
    (trim ≤ 1000 → trimStep c flow grant trim ≤ 1000)) ∧
  (∀ limit target opening : Nat,
    slewTo limit target opening ≤ target ∧ slewTo limit target opening ≤ opening + limit ∧
    (target ≤ opening → slewTo limit target opening = target) ∧
    (opening + limit ≤ target → slewTo limit target opening = opening + limit)) ∧
  (∀ (isOpen isClosed : Bool) (timer : Timer),
    (∀ supervise ∈ [superviseLv isOpen, superviseClosed],
      supervise true ⟨.closing, timer⟩ = ⟨.closed, none⟩ ∧
      supervise true ⟨.closeOverdue, timer⟩ = ⟨.closed, none⟩ ∧
      supervise true ⟨.closed, timer⟩ = ⟨.closed, timer⟩ ∧
      supervise false ⟨.closing, timer⟩ = ⟨.closing, timer⟩ ∧
      supervise false ⟨.closeOverdue, timer⟩ = ⟨.closeOverdue, timer⟩ ∧
      supervise false ⟨.closed, timer⟩ = ⟨.closeOverdue, timer⟩) ∧
    superviseClosed isClosed ⟨.opened, timer⟩ = ⟨.opened, timer⟩ ∧
    superviseLv true isClosed ⟨.opening, timer⟩ = ⟨.opened, none⟩ ∧
    superviseLv true isClosed ⟨.openOverdue, timer⟩ = ⟨.opened, none⟩ ∧
    superviseLv true isClosed ⟨.opened, timer⟩ = ⟨.opened, timer⟩ ∧
    superviseLv false isClosed ⟨.opening, timer⟩ = ⟨.opening, timer⟩ ∧
    superviseLv false isClosed ⟨.openOverdue, timer⟩ = ⟨.openOverdue, timer⟩ ∧
    superviseLv false isClosed ⟨.opened, timer⟩ = ⟨.openOverdue, timer⟩) ∧
  (∀ s : State, s.seq.phase ≠ .offline →
    let t := s.valveWork.1
    let v := s.valve
    let g := s.share.grant
    let active := fun b : Debouncer => decide (b.stable = .active)
    let lvOpen := active s.input.debounce.lvOpen
    let lvClosed := active s.input.debounce.lvClosed
    let svClosed := active s.input.debounce.svClosed
    let rvClosed := active s.input.debounce.rvClosed
    let trip := s.seq.phase = .tripped
    let trim := if s.seq.phase = .push then trimStep s.cfg s.input.flow g.header v.trim else v.trim
    let sv := if trip then v.svOpening else slewTo s.cfg.slewLimit t.valve.svTarget v.svOpening
    let rv := if trip then v.rvOpening else slewTo s.cfg.slewLimit t.valve.rvTarget v.rvOpening
    let commanded := fun (before after : Nat) (c : Channel) =>
      if before = 0 ∧ 0 < after then ⟨.opened, none⟩ else if 0 < before ∧ after = 0 then ⟨.closing, some 0⟩ else c
    Untouched [.valve] s t ∧ t.valve.lvCommand = v.lvCommand ∧ t.valve.bvCommand = v.bvCommand ∧
    (trip → t.valve.trim = v.trim ∧ t.valve.svTarget = v.svTarget ∧ t.valve.rvTarget = v.rvTarget) ∧
    (¬ trip → t.valve.trim = trim ∧
      t.valve.svTarget = (if s.seq.phase = .push ∧ g.header ≠ 0 then
        min 1000 (1000 * g.supply / s.cfg.svRating) - trim else 0) ∧
      t.valve.rvTarget = if s.seq.phase = .recover then min 1000 (1000 * g.ret / s.cfg.rvRating) else 0) ∧
    t.valve.svOpening = sv ∧ t.valve.rvOpening = rv ∧
    t.valve.lv = superviseLv lvOpen lvClosed v.lv ∧
    t.valve.sv = superviseClosed svClosed (commanded v.svOpening sv v.sv) ∧
    t.valve.rv = superviseClosed rvClosed (commanded v.rvOpening rv v.rv) ∧
    (.cause .valve ∈ s.valveWork.2 ↔
      (v.lv.state = .closed ∧ lvClosed = false) ∨ (v.lv.state = .opened ∧ lvOpen = false) ∨
      ((commanded v.svOpening sv v.sv).state = .closed ∧ svClosed = false) ∨
      ((commanded v.rvOpening rv v.rv).state = .closed ∧ rvClosed = false) ∨
      (lvOpen = true ∧ lvClosed = true)) ∧
    (.lvClosed ∈ s.valveWork.2 ↔ v.lv.state ≠ .closed ∧ t.valve.lv.state = .closed))

/-! ## The siding line -/

/-- CONTENTION_START (R102, R103, R157): with the line idle in "LISTEN", the head of the outgoing list becomes the frame in
flight with the payload its owners give at this moment, and the list keeps it. That both runs of bits stand through the
contention, whose start bit may be read back recessive, is assumption 9. -/
def Obligations.ContentionTakesTheHeadFrame : Prop :=
  ∀ (s : State) (f : OutFrame) (rest : List OutFrame),
    s.line.state = .listen → s.line.lineIdle = true → s.line.outgoing = f :: rest →
    ∃ i, exec .contentionStart s = .next { s with line := { s.line with
        state := .contend, track := .inFrame, inFlight := some i } } ∧
      i.frame = f ∧ i.removed = false ∧ i.carried = ⟨s.seq.phase.code, s.demands⟩ ∧
      i.check = frameCheck f.kind s.loader.ownAddress i.payload ∧
      (f = .trip → i.payload = [0x00#8, BitVec.ofNat 8
        (8 * (s.trip.latched.contains .drift).toNat + 4 * (s.trip.latched.contains .brk).toNat
          + 2 * (s.trip.latched.contains .gas).toNat + (s.trip.latched.contains .esd).toNat)]) ∧
      (f = .clear → i.payload = []) ∧
      (f = .announce → i.payload =
        [BitVec.ofNat 8 s.seq.phase.code, BitVec.ofNat 8 (128 * s.trip.outstanding.toNat
          + (if s.share.island = .island then 64 else 0) + s.ticket.store.length)]
        ++ bytesOfNat16 (s.demand .supply) ++ bytesOfNat16 (s.demand .ret) ++ bytesOfNat16 (s.demand .header)
        ++ bytesOfNat16 (s.loader.signature.getD 0)) ∧
      (∀ part series, f = .report part → s.ticket.series = some series →
        i.payload.take 4 = bytesOfNat16 series.number ++ [BitVec.ofNat 8 part, BitVec.ofNat 8 series.parts])

/-- The eighth SEND_ERROR and STUCK_LINE (R105, R107, R147, R149): the controller enters "FAULT" with its frame kept in the
list and the fault marker set; a "JOINED" station enters ISLAND, its rings capped at the allowance and its grants lowered
to it. -/
def Obligations.FaultPutsTheStationInIsland : Prop :=
  ∀ (s : State) (c : Instr),
    (∃ place, c = .sendError place ∧ s.line.state.reaches place = true ∧ 7 ≤ s.line.sendErrors) ∨
      (c = .stuckLine ∧ s.line.state ≠ .off ∧ s.line.state ≠ .fault ∧ s.line.state ≠ .silent) →
    ∃ t, exec c s = .next t ∧ Untouched [.line, .share, .ticket] s t ∧
      t.line.state = .fault ∧ t.line.inFlight = none ∧ t.line.outgoing = s.line.outgoing ∧
      t.line.unacked = s.line.unacked ∧ t.line.announceTimer = s.line.announceTimer ∧
      t.line.spacingTimer = s.line.spacingTimer ∧
      t.share.faultMarker = true ∧ t.share.island = .island ∧ t.share.share = s.share.share ∧
      t.share.starvation = s.share.starvation ∧
      (s.share.island = .island → t.share.grant = s.share.grant ∧ t.share.rings = s.share.rings ∧
        t.ticket = s.ticket) ∧
      (s.share.island = .joined → t.ticket = { s.ticket with current := noted .island 2 s.ticket } ∧
        ∀ p, t.share.rings.get p = (s.share.rings.get p).map (fun v => min v (s.cfg.allowance.get p)) ∧
          t.share.grant.get p = (if min (s.share.grant.get p) (s.cfg.allowance.get p) < s.cfg.minGrant.get p then 0
            else min (s.share.grant.get p) (s.cfg.allowance.get p)))

/-- ARBITRATION_LOSS and SEND_ERROR below the eighth (R104, R105): the attempt ends, the frame stays in the list, and the
station reads on; a loss counts nothing, an error counts one. FAULT_EXIT at a recessive run of 1 s (R107, R147); line
idle and another device's start bit (R98; assumption 8); and STUCK_LINE where it is only measured: the frame on the line
is over by then. That an error at the start bit leaves line idle yes, and one past the ack slot a spoilt frame, is
assumption 10; what each leaves of the two runs, and that a run at 1 s at the entry into "FAULT" already lets FAULT_EXIT
act, is assumption 9, and that a command whose event cannot happen does nothing is assumption 4. -/
def Obligations.LineStatesFollowTheirEvents : Prop :=
  ∀ (s : State) (place : SendErrorPlace),
    (s.line.state = .contend → exec .arbitrationLoss s = .next
      { s with line := { s.line with
          state := .listen, inFlight := none, track := .inFrame, recessiveRun := 0, dominantRun := 0 } }) ∧
    (s.line.state.reaches place = true → s.line.sendErrors < 7 → exec (.sendError place) s = .next
      { s with line := { s.line with
          state := .listen, inFlight := none, sendErrors := s.line.sendErrors + 1,
          recessiveRun := if place = .start then s.line.recessiveRun else 0,
          dominantRun := if place = .start then s.line.dominantRun else 0,
          track := match place with | .start => .idle | .trailer => .spoilt | _ => .inFrame } }) ∧
    (s.line.state = .fault → 10 ≤ s.line.recessiveRun → exec .faultExit s = .next
      { s with
        line := { s.line with state := .listen, track := .idle, sendErrors := 0, dominantRun := 0 }
        share := { s.share with faultMarker := false } }) ∧
    (s.line.state ≠ .off → s.line.track = .lost ∨ s.line.track = .afterFrame → exec .lineIdle s = .next
      { s with line := { s.line with track := .idle, dominantRun := 0 } }) ∧
    (s.line.track = .inFrame ∨ s.line.track = .spoilt → exec .lineIdle s = .next s) ∧
    (s.line.lineIdle = true → s.line.state = .listen ∧ s.line.outgoing = [] ∨ s.line.state = .silent ∨
      s.line.state = .fault → exec .contentionStart s = .next
      { s with line := { s.line with track := .inFrame, recessiveRun := 0, dominantRun := 0 } }) ∧
    (s.line.lineIdle = false → exec .contentionStart s = .next s) ∧
    (s.line.state = .fault ∨ s.line.state = .silent → exec .stuckLine s = .next
      { s with line := { s.line with
          dominantRun := 5, recessiveRun := 0,
          track := if s.line.track = .lost then .lost else .afterFrame } })

/-- SEND_COMPLETED of a TRIP, a CLEAR or a REPORT part (R106, R110, R116, R178): the frame leaves the list unless R110 took it
out before, the send-error count clears, and the pending series ends with its last part. That both runs are 0 then is
assumption 9. -/
def Obligations.CompletedFrameLeavesTheList : Prop :=
  ∀ (s : State) (acked : Bool) (i : InFlight), s.line.sending = true → s.line.inFlight = some i → i.frame ≠ .announce →
    let remaining :=
      if i.removed then s.line.outgoing else s.line.outgoing.filter (fun f => decide (f ≠ i.frame))
    ∃ t, exec (.sendCompleted acked) s = .next t ∧
      t = { s with line := t.line, ticket := t.ticket } ∧
      t.line = { s.line with
        state := .listen, track := .afterFrame, inFlight := none, sendErrors := 0, outgoing := remaining,
        recessiveRun := 0, dominantRun := 0 } ∧
      ((∃ part, OutFrame.report part ∈ remaining) → t.ticket = s.ticket) ∧
      (i.frame = .trip ∨ i.frame = .clear → t.ticket = s.ticket) ∧
      ((∀ part, OutFrame.report part ∉ remaining) → ∀ part, i.frame = .report part →
        t.ticket = { s.ticket with series := none })

/-- SEND_COMPLETED of an ANNOUNCE (R106, R112, R113, R115, R135): last announced, the two timers, the unacknowledged count
and the settle rings; the prompt test asks for another ANNOUNCE when the phase code or a demand has moved since the
contention. That both timers count from 0 at the completion, the spacing timer too, which R112 (3) has show the time that
the attempt took, is assumption 9. -/
def Obligations.CompletedAnnounceIsReported : Prop :=
  ∀ (s : State) (acked : Bool) (i : InFlight), OutgoingOrdered s → s.line.sending = true →
    s.line.inFlight = some i → i.frame = .announce → 0 < s.cfg.announcePeriod →
    ∃ t, exec (.sendCompleted acked) s = .next t ∧ Untouched [.line, .share, .ticket] s t ∧
      t.line.state = .listen ∧ t.line.inFlight = none ∧ t.line.sendErrors = 0 ∧
      t.line.outgoing = s.line.outgoing.filter (fun f => decide (f ≠ .announce)) ∧
      t.line.lastAnnounced = some i.carried ∧ t.line.announceTimer = some 0 ∧ t.line.spacingTimer = some 0 ∧
      t.line.unacked = (if acked then 0 else min 255 (s.line.unacked + 1)) ∧
      (t.line.promptRequest = true ↔
        i.carried.phaseCode ≠ s.seq.phase.code ∨ ∃ p, s.cfg.demandStep ≤ i.carried.demands.get p - s.demand p ∨
          s.cfg.demandStep ≤ s.demand p - i.carried.demands.get p) ∧
      (acked = true → s.share.island = .joined → t.ticket = s.ticket ∧ t.share.grant = s.share.grant ∧
        ∀ p, t.share.rings.get p = (s.share.rings.get p).drop 1 ++ [i.carried.demands.get p]) ∧
      (acked = false → t.share.island = .joined → t.share = s.share ∧ t.ticket = s.ticket)

/-- R146, R149, R150, R143: an unacknowledged ANNOUNCE at the island count enters ISLAND by count, its rings capped at the
allowance and its grants lowered to it; an acknowledged one fills the rings and leaves ISLAND unless the fault marker is
set, its grants lowered to the shares of the latest computation. A grant below the minimum grant then is 0. The notes are
ISLAND 1 and REJOIN 0. -/
def Obligations.AcknowledgementsMoveTheIslandState : Prop :=
  ∀ (s : State) (acked : Bool) (i : InFlight), s.line.sending = true → s.line.inFlight = some i → i.frame = .announce →
    ∃ t, exec (.sendCompleted acked) s = .next t ∧ t.share.share = s.share.share ∧
      t.share.faultMarker = s.share.faultMarker ∧ t.share.starvation = s.share.starvation ∧
      (acked = false → s.share.island = .joined → s.share.faultMarker = false →
        s.cfg.islandCount ≤ min 255 (s.line.unacked + 1) →
        t.share.island = .island ∧ t.ticket.current = noted .island 1 s.ticket ∧
        ∀ p, t.share.rings.get p = (s.share.rings.get p).map (fun v => min v (s.cfg.allowance.get p)) ∧
          t.share.grant.get p = (if min (s.share.grant.get p) (s.cfg.allowance.get p) < s.cfg.minGrant.get p then 0
            else min (s.share.grant.get p) (s.cfg.allowance.get p))) ∧
      (acked = false → min 255 (s.line.unacked + 1) < s.cfg.islandCount ∨ s.share.island = .island ∨
        s.share.faultMarker = true → t.share = s.share ∧ t.ticket = s.ticket) ∧
      (acked = true → ∀ p, t.share.rings.get p = (s.share.rings.get p).drop 1 ++ [i.carried.demands.get p]) ∧
      (acked = true → s.share.island = .island → s.share.faultMarker = false →
        t.share.island = .joined ∧ t.ticket.current = noted .rejoin 0 s.ticket ∧
        ∀ p, t.share.grant.get p = (if min (s.share.grant.get p) (s.share.share.get p) < s.cfg.minGrant.get p then 0
          else min (s.share.grant.get p) (s.share.share.get p))) ∧
      (acked = true → s.share.island = .joined ∨ s.share.faultMarker = true →
        t.share.island = s.share.island ∧ t.share.grant = s.share.grant ∧ t.ticket = s.ticket)

/-- ANNOUNCE_TIMER_EXPIRY and SPACING_TIME_REACHED at their times (R112, R114, R110): one ANNOUNCE is queued, and one that
waits stays the only one. The prompt test (R113) and where it is made: at every phase change, and at every change of a
current demand, by a new P_car or a throttle level, in every line state but off and "SILENT"; where the phase code or a
demand differs from last announced and no ANNOUNCE is in the list, it queues one, or with the spacing timer below the
spacing time sets the prompt request. In a list out of the order of R109, which no run reaches, an insertion would also
sort the others, so what it leaves is stated under OutgoingOrdered, which every step keeps. -/
def Obligations.TimersAndPromptTestQueueOneAnnounce : Prop :=
  ∀ (s : State) (n : Nat),
    let spacing := (s.cfg.announcePeriod + 3) / 4
    let oneMore := fun l : List OutFrame => l.count .announce = 1 ∧
      l.filter (fun f => decide (f ≠ .announce)) = s.line.outgoing.filter (fun f => decide (f ≠ .announce))
    let moved := ∃ a, s.line.lastAnnounced = some a ∧ (a.phaseCode ≠ s.seq.phase.code ∨
      ∃ p, s.cfg.demandStep ≤ a.demands.get p - s.demand p ∨ s.cfg.demandStep ≤ s.demand p - a.demands.get p)
    let tested := fun u : State => if u.demands = s.demands then u else u.promptTest
    (OutgoingOrdered s → s.line.takesRequests = true →
      (s.line.announceTimer = some n → s.cfg.announcePeriod ≤ n → ∃ l, oneMore l ∧
        exec .announceTimerExpiry s = .next { s with line := { s.line with announceTimer := none, outgoing := l } }) ∧
      (s.line.spacingTimer = some n → spacing ≤ n →
        (s.line.promptRequest = true → ∃ l, oneMore l ∧ exec .spacingTimeReached s = .next { s with line := { s.line with
          spacingTimer := some spacing, promptRequest := false, outgoing := l } }) ∧
        (s.line.promptRequest = false →
          exec .spacingTimeReached s = .next { s with line := { s.line with spacingTimer := some spacing } }))) ∧
    (s.line.state = .off ∨ s.line.state = .silent ∨ ¬ moved ∨ .announce ∈ s.line.outgoing → s.promptTest = s) ∧
    (s.line.state ≠ .off → s.line.state ≠ .silent → moved → .announce ∉ s.line.outgoing → s.line.spacingTimer = some n →
      (n < spacing → s.promptTest = { s with line := { s.line with promptRequest := true } }) ∧
      (spacing ≤ n → OutgoingOrdered s → ∃ l, oneMore l ∧ s.promptTest = { s with line := { s.line with outgoing := l } })) ∧
    (∀ p : Phase, ∃ u, s.enterPhase p = u.promptTest ∧ Untouched [.seq, .det, .valve, .share, .ticket] s u ∧
      u.seq.phase = p) ∧
    (∃ u, s.takeReport .throttle = tested u ∧ Untouched [.det, .ticket] s u ∧ u.det.throttle = s.det.throttle + 1) ∧
    (∀ m, s.seq.phase = .push → s.det.clearTimer = some m → 10 * s.cfg.clearTime ≤ m → 0 < s.det.throttle →
      ∃ u, exec .clearTimerExpiry s = .next (tested u) ∧ Untouched [.det, .ticket] s u ∧
        u.det.throttle = s.det.throttle - 1) ∧
    (∀ counts levels, ∃ u, s.sampleInputs counts levels = tested u ∧ Untouched [.input] s u ∧
      u.input.sensors = sixZip sensorStep s.cfg.sensors s.input.sensors counts)

/-- FRAME_BAD_CHECK, FRAME_END_FIELD_ERROR, FRAME_DISCARDED, and every other frame whose check field is not the check over
the fields received (R99, R100, R101, R103): a frame the station receives ends, and nothing else changes. With the check
bad it is not acknowledged; with the check good it is, but in "FAULT", and but for a frame whose ack slot was past at a
send error (R105). Of a frame that the station does not follow it reads the bits alone, and in off and in an attempt of its
own, where no frame of another device can end, the command does nothing (assumption 4). The record of the ack slot is
assumption 8, that both runs are 0 after a frame, followed or not, assumption 9, the frame past its ack slot
assumption 10, and that the fields decide, whatever the command, assumption 18. -/
def Obligations.SpoiltFramesReachNoBlock : Prop :=
  ∀ (s : State) (kind : BitVec 3) (source : Address) (bytes : List Byte) (causeSet number check : Half)
      (payload : AnnouncePayload) (target : Byte),
    let ended := fun ack : Bool => { s with line := frameOver ack s.line }
    let acks := decide (s.line.state ≠ .fault ∧ s.line.track ≠ .spoilt)
    let frames := [(Instr.tripFrame source ⟨causeSet, check⟩, Frame.mk 0 source (halfBytes causeSet) check),
      (.clearFrame ⟨source, check⟩, ⟨1, source, [], check⟩),
      (.announceFrame source ⟨payload, check⟩, ⟨2, source, announcePayloadBytes payload, check⟩),
      (.inquiry source target ⟨number, check⟩, ⟨3, source, target :: halfBytes number, check⟩),
      (.reportFrame source ⟨bytes, check⟩, ⟨4, source, bytes, check⟩),
      (.collect source target ⟨number, check⟩, ⟨5, source, target :: halfBytes number, check⟩),
      (.frameDiscarded kind source ⟨bytes, check⟩, ⟨kind, source, bytes, check⟩)]
    let good := fun f : Frame => f.check = frameCheck f.kind.toNat f.source.toNat f.payload
    (s.line.receives = true →
      exec .frameBadCheck s = .next (ended false) ∧ exec .frameEndFieldError s = .next (ended acks) ∧
      (∀ x ∈ frames, ¬ good x.2 → exec x.1 s = .next (ended false)) ∧
      (∀ x ∈ frames, good x.2 → source.toNat ≠ s.loader.ownAddress → validSource source.toNat = false ∨
        6 ≤ x.2.kind.toNat ∨ lengthOfKind x.2.kind.toNat x.2.payload.length = false →
        exec x.1 s = .next (ended acks)) ∧
      (s.line.track = .spoilt → exec .conflict s = .next (ended false) ∧
        ∀ x ∈ frames, exec x.1 s = .next (ended false))) ∧
    (s.line.receives = false → ∀ c ∈ [Instr.conflict, .frameBadCheck, .frameEndFieldError] ++ frames.map Prod.fst,
      (s.line.state = .listen ∨ s.line.state = .silent ∨ s.line.state = .fault → exec c s = .next
        { s with line := { s.line with recessiveRun := 0, dominantRun := 0 } }) ∧
      (s.line.state = .off ∨ s.line.sending = true → exec c s = .next s))

/-- CONFLICT, and any other good frame of the own source (R108, R101, R178, R37): the controller goes silent with an empty
list, CONFLICT is latched, and the station enters "TRIPPED" showing "EA"; in "SILENT" a further one only ends its
frame. The record of the ack slot is assumption 8, that both runs are 0 after a frame assumption 9, and that every frame
command of the own source is a conflict, whatever its name, assumption 18. -/
def Obligations.ConflictSilencesTheStation : Prop :=
  ∀ (s : State) (kind : BitVec 3) (source : Address) (bytes : List Byte) (causeSet number : Half)
      (payload : AnnouncePayload) (target : Byte) (c : Instr),
    Hears s → s.seq.phase ≠ .offline →
    let check := fun (k : Nat) (b : List Byte) => frameCheck k source.toNat b
    let request := target :: halfBytes number
    c = .conflict ∨ (source.toNat = s.loader.ownAddress ∧ c ∈ [.frameDiscarded kind source ⟨bytes, check kind.toNat bytes⟩,
      .tripFrame source ⟨causeSet, check 0 (halfBytes causeSet)⟩, .clearFrame ⟨source, check 1 []⟩,
      .announceFrame source ⟨payload, check 2 (announcePayloadBytes payload)⟩,
      .inquiry source target ⟨number, check 3 request⟩, .reportFrame source ⟨bytes, check 4 bytes⟩,
      .collect source target ⟨number, check 5 request⟩]) →
    (s.line.state ≠ .silent → s.trip.latched.contains .conflict = false → ∃ t, exec c s = .next t ∧
      t.line.state = .silent ∧ t.line.outgoing = [] ∧ t.line.inFlight = none ∧ t.line.promptRequest = false ∧
      t.line.announceTimer = none ∧ t.line.spacingTimer = none ∧ t.ticket.series = none ∧
      t.line.track = .afterFrame ∧ t.line.ackDriven = acksGood s ∧
      t.seq.phase = .tripped ∧ Cause.conflict ∈ t.trip.latched ∧ t.trip.list = s.trip.list ∧
      (s.seq.phase ≠ .tripped → t.drives = ⟨false, 0, 0, false⟩ ∧ t.seq.tempCode = some .ea) ∧
      t.share.island = s.share.island ∧ t.share.faultMarker = s.share.faultMarker ∧ t.share.rings = s.share.rings ∧
      t.loader = s.loader ∧ t.input = s.input ∧ t.peers = s.peers) ∧
    (s.line.state = .silent → exec c s = .next { s with line := frameOver true s.line })

/-- Section 6.2: what a peer reads from the station's ANNOUNCE and TRIP is what the station had: its phase by the table of
phase codes, its demands, its flags, its signature and its latched siding-scope causes. R99: a peer finds the check of every frame it launches good. -/
def Obligations.PeersReadWhatTheStationSends : Prop :=
  ∀ (s : State) (b : Fin 10 → Byte), s.announceBytes = List.ofFn b →
    (∀ p, s.demand p ≤ 65535) → s.ticket.store.length ≤ 4 → s.loader.signature.getD 0 ≤ 65535 →
    let heard : AnnouncePayload := ⟨b 0, b 1, b 2 ++ b 3, b 4 ++ b 5, b 6 ++ b 7, b 8 ++ b 9⟩
    (∀ x ∈ [(Phase.idle, 1), (.check, 2), (.push, 3), (.drain, 4), (.recover, 5), (.close, 6), (.hold, 7), (.tripped, 8)],
      s.seq.phase = x.1 → heard.phaseCode.toNat = x.2) ∧
    heard.phaseCode.toNat = s.seq.phase.code ∧ announceDemands heard = s.demands ∧
    announceOutstanding heard = s.trip.outstanding ∧ announceIsland heard = decide (s.share.island = .island) ∧
    (heard.flags.toNat % 8 = s.ticket.store.length) ∧ heard.signature.toNat = s.loader.signature.getD 0 ∧
    (∀ hi lo, s.trip.sidingSet.bytes = [hi, lo] → sidingSetOfHalf (hi ++ lo) = s.trip.sidingSet) ∧
    (∀ f : OutFrame, s.loader.ownAddress ≤ 16 → checkGood
      ⟨BitVec.ofNat 3 f.kind, BitVec.ofNat 5 s.loader.ownAddress, (s.launch f).payload, (s.launch f).check⟩ = true)

/-! ## The peer table -/

/-- STALE_THRESHOLD_REACHED, LAPSE_THRESHOLD_REACHED, FORGET_TIME_REACHED (R125, R126, R127, R128): the record of the address
moves to its next liveness or leaves the table, where its count stands at the threshold, and nothing else changes. A
record below its threshold, as one just refreshed is, has not reached it (R128). That the command does nothing to a
record of another liveness is assumption 4. -/
def Obligations.RecordsAgeAndAreForgotten : Prop :=
  ∀ (s : State) (a : Address) (r : Peer),
    (s.peers.map Peer.address).Nodup → findPeer s.peers a.toNat = some r →
    let stale := s.cfg.staleCount * s.cfg.announcePeriod
    let lapse := s.cfg.lapseCount * s.cfg.announcePeriod
    let others := fun t : State => ∀ b, b ≠ a.toNat → findPeer t.peers b = findPeer s.peers b
    (r.liveness = .current → stale ≤ r.age → ∃ t, exec (.staleThresholdReached a) s = .next t ∧
      Untouched [.peers] s t ∧ findPeer t.peers a.toNat = some { r with liveness := .stale } ∧ others t) ∧
    (r.liveness = .stale → lapse ≤ r.age → ∃ t, exec (.lapseThresholdReached a) s = .next t ∧
      Untouched [.peers] s t ∧
      findPeer t.peers a.toNat = some { r with liveness := .lapsed, age := lapse, lapsedTime := 0 } ∧ others t) ∧
    (r.liveness = .lapsed → 10 * s.cfg.forgetTime ≤ r.lapsedTime → ∃ t, exec (.forgetTimeReached a) s = .next t ∧
      Untouched [.peers] s t ∧ findPeer t.peers a.toNat = none ∧ t.peers.length + 1 = s.peers.length ∧ others t) ∧
    (r.age < stale → exec (.staleThresholdReached a) s = .next s) ∧
    (r.age < lapse → exec (.lapseThresholdReached a) s = .next s) ∧
    (r.lapsedTime < 10 * s.cfg.forgetTime → exec (.forgetTimeReached a) s = .next s) ∧
    (r.liveness ≠ .current → exec (.staleThresholdReached a) s = .next s) ∧
    (r.liveness ≠ .stale → exec (.lapseThresholdReached a) s = .next s) ∧
    (r.liveness ≠ .lapsed → exec (.forgetTimeReached a) s = .next s)

/-- R120, R121, R122, R123: a good frame of each kind that R101 hands on leaves its source with a record that is CURRENT and of
age 0, a new one where there was none, and an ANNOUNCE fills it; every other record stays as it is. What a REPORT leaves on the
line, the record of its ack slot and both runs at 0, is assumptions 8 and 9. -/
def Obligations.FramesRefreshTheirSource : Prop :=
  ∀ (s : State) (source : Address) (causeSet number : Half) (target : Byte) (payload : AnnouncePayload)
      (part : List Byte) (c : Instr),
    Hears s → source.toNat ≠ s.loader.ownAddress → validSource source.toNat = true →
    4 ≤ part.length → part.length ≤ 15 →
    let announce := Instr.announceFrame source ⟨payload, frameCheck 2 source.toNat (announcePayloadBytes payload)⟩
    let report := Instr.reportFrame source ⟨part, frameCheck 4 source.toNat part⟩
    c ∈ [.tripFrame source ⟨causeSet, frameCheck 0 source.toNat (halfBytes causeSet)⟩,
      .clearFrame ⟨source, frameCheck 1 source.toNat []⟩,
      .inquiry source target ⟨number, frameCheck 3 source.toNat (target :: halfBytes number)⟩,
      .collect source target ⟨number, frameCheck 5 source.toNat (target :: halfBytes number)⟩, report, announce] →
    let held := (findPeer s.peers source.toNat).getD
      { address := source.toNat
        cls := if source.toNat ≤ 16 then .station else .observer
        liveness := .current
        lastPhase := none
        demands := ⟨0, 0, 0⟩
        islandFlag := false
        signature := if source.toNat ≤ 16 then .unheard else .absent
        age := 0
        lapsedTime := 0 }
    let fresh := { held with liveness := .current, age := 0, lapsedTime := 0 }
    ∃ t, exec c s = .next t ∧ t.loader = s.loader ∧ t.input = s.input ∧ t.resetting = s.resetting ∧
      (∀ b, b ≠ source.toNat → findPeer t.peers b = findPeer s.peers b) ∧
      (c ≠ announce → findPeer t.peers source.toNat = some fresh) ∧
      (c = announce → findPeer t.peers source.toNat = some { fresh with
        lastPhase := some payload.phaseCode.toNat
        demands := ⟨payload.supply.toNat, payload.ret.toNat, payload.header.toNat⟩
        islandFlag := payload.flags.getLsbD 6
        signature := match held.cls with
          | .observer => .absent
          | .station => if s.loader.signature = some payload.signature.toNat then .match else .mismatch }) ∧
      (c = report → t = { s with line := frameOver (acksGood s) s.line, peers := t.peers })

/-! ## Pool sharing -/

/-- R136 to R140: the water fill of one pool of a share computation: every participant once, in the order of R139, each with
the smaller of its demand and the level of its step; all together never above the reduced capacity. The participants are
the station with its effective demand, which is the smallest of its current demand and its settle ring (R136), and every
CURRENT or STALE station record, held to the allowance where its island flag is set (R138). The current demands are those
of R41, by the phase, the throttle level and P_car. -/
def Obligations.WaterFillIsFair : Prop :=
  ∀ (s : State) (p : Pool),
    let capacity := s.cfg.capacity.get p - (s.peers.filter (fun r =>
      decide (r.cls = .station ∧ r.liveness = .lapsed ∧ codeDraws r.lastPhase p = true))).length * s.cfg.allowance.get p
    let shares := waterFill (s.reducedCapacity p) (orderParticipants (s.participants p))
    let own := effectiveDemand (s.demand p) (s.share.rings.get p)
    let takesPart := fun r : Peer => decide (r.cls = .station ∧ (r.liveness = .current ∨ r.liveness = .stale))
    let throttled : Int := (s.cfg.lPush : Int) * (100 - (s.det.throttle : Int) * (s.cfg.throttleStep : Int)) / 100
    let above := s.input.sensors.pCar.value - (s.cfg.pRes : Int)
    (s.demand .supply = if s.seq.phase = .push then s.cfg.vPush else 0) ∧
    ((s.demand .header : Int) = if s.seq.phase = .push then max 0 throttled else 0) ∧
    ((s.demand .ret : Int) = if s.seq.phase = .recover ∧ 0 < above then
      min (s.cfg.vRec : Int) ((s.cfg.vRec : Int) * above / (s.cfg.pBand : Int)) else 0) ∧
    s.demand .supply ≤ s.cfg.vPush ∧ s.demand .header ≤ s.cfg.lPush ∧ s.demand .ret ≤ s.cfg.vRec ∧
    s.reducedCapacity p = capacity ∧
    s.participants p = ⟨own, s.loader.ownAddress⟩ :: (s.peers.filter takesPart).map (fun r =>
      ⟨if r.islandFlag = true then min (r.demands.get p) (s.cfg.allowance.get p) else r.demands.get p, r.address⟩) ∧
    own ≤ s.demand p ∧ (∀ v ∈ s.share.rings.get p, own ≤ v) ∧ (own = s.demand p ∨ own ∈ s.share.rings.get p) ∧
    (shares.map Prod.fst).Perm (s.participants p) ∧
    (shares.map Prod.fst).Pairwise
      (fun a b => a.demand < b.demand ∨ (a.demand = b.demand ∧ a.address ≤ b.address)) ∧
    (shares.map Prod.snd).sum ≤ capacity ∧
    (∀ pre a x post, shares = pre ++ (a, x) :: post →
      x = min a.demand ((capacity - (pre.map Prod.snd).sum) / (post.length + 1)) ∧
      x + (pre.map Prod.snd).sum ≤ capacity) ∧
    (∀ pre a x mid b y post, shares = pre ++ (a, x) :: mid ++ (b, y) :: post →
      x ≤ y ∧ (a.demand = b.demand → y ≤ x + 1)) ∧
    ((shares.map (fun z => z.1.demand)).sum ≤ capacity → ∀ z ∈ shares, z.2 = z.1.demand) ∧
    (capacity = 0 → ∀ z ∈ shares, z.2 = 0) ∧
    ((∀ r ∈ s.peers, r.address ≠ s.loader.ownAddress) →
      (⟨own, s.loader.ownAddress⟩, s.ownShare p) ∈ shares)

/-- R133, R141, R142, R143, R144: what a share computation leaves: the own shares, the grants of the island state, and the
starvation timer with its note; it writes nothing else. -/
def Obligations.GrantsFollowTheShares : Prop :=
  ∀ s : State, ∃ t, s.shareWork = t ∧ Untouched [.share, .ticket] s t ∧
    t.share.rings = s.share.rings ∧ t.share.island = s.share.island ∧ t.share.faultMarker = s.share.faultMarker ∧
    (∀ p, t.share.share.get p = s.ownShare p ∧
      (s.seq.phase.draws p = false → t.share.grant.get p = 0) ∧
      (s.seq.phase.draws p = true →
        let most := match s.share.island with
          | .joined => min (s.ownShare p) (s.cfg.spotRating.get p)
          | .island => min (min (s.demand p) (s.cfg.allowance.get p)) (s.cfg.spotRating.get p)
        t.share.grant.get p = if most < s.cfg.minGrant.get p then 0 else most)) ∧
    (s.seq.phase ≠ .push → t.share.starvation = s.share.starvation ∧ t.ticket = s.ticket) ∧
    (s.seq.phase = .push →
      (t.share.grant.supply ≠ 0 → t.share.grant.header ≠ 0 → t.share.starvation = none ∧ t.ticket = s.ticket) ∧
      (t.share.grant.supply = 0 ∨ t.share.grant.header = 0 →
        (s.share.starvation.isSome = true → t.share.starvation = s.share.starvation ∧ t.ticket = s.ticket) ∧
        (s.share.starvation = none → t.share.starvation = some 0 ∧
          t.ticket = { s.ticket with current := t.ticket.current } ∧ t.ticket.current = noted .starved
            ((if t.share.grant.supply = 0 then 1 else 0) + (if t.share.grant.header = 0 then 2 else 0)) s.ticket)))

/-! ## Trips -/

/-- The reports made at a sample event and the taking of one. ESD and GAS are reported while their inputs are stable "ACTIVE"
(R155), SENSOR while a sensor is in "FAIL", in the phases of R5, GROUND and UNCOUPLE at a lost ground or arm in "PUSH",
"DRAIN", "RECOVER" and "HOLD" (R36). A taken report (R154, R155, R156, R162, R37, R38): a latched cause adds nothing; a new
one joins the latched causes; a siding-scope one sets the own entry with the grown set at its place or at the end, sets
trip-outstanding and leaves one TRIP and no CLEAR in the list; outside "TRIPPED" it makes the entry, with its code, note
TRIP and the outputs off, and with both arms "INACTIVE" the ticket closes then; inside it writes no note and sets no
code. That a CLEAR in flight leaves the list at once is assumption 11. -/
def Obligations.ReportedCausesLatch : Prop :=
  ∀ (s : State) (c : Cause), TripsAgree s → s.seq.phase ≠ .offline → c ∈ latchable →
    let t := s.takeReport (.cause c)
    let own := s.loader.ownAddress
    let lost := fun d : Debouncer => d.stable ≠ .active
    let sensors := s.input.sensors
    let siding := c = .esd ∨ c = .gas ∨ c = .brk ∨ c = .drift
    let entry : TripEntry := ⟨own, .known ⟨.esd ∈ t.trip.latched, .gas ∈ t.trip.latched, .brk ∈ t.trip.latched,
      .drift ∈ t.trip.latched⟩⟩
    (.cause .esd ∈ s.tripReports ↔ s.input.debounce.esd.stable = .active) ∧
    (.cause .gas ∈ s.tripReports ↔ s.input.debounce.gasAlarm.stable = .active) ∧
    (∀ r, r ∈ s.sensorReports ↔ r = .cause .sensor ∧
      (∃ x ∈ [sensors.pCar, sensors.pLiq, sensors.tLiq, sensors.x, sensors.y, sensors.z], x.status = .fail) ∧
      s.seq.phase ≠ .idle ∧ (s.seq.phase = .tripped → s.ticketOpen = true)) ∧
    (∀ r, r ∈ s.supervisionReports ↔
      (s.seq.phase = .push ∨ s.seq.phase = .drain ∨ s.seq.phase = .recover ∨ s.seq.phase = .hold) ∧
      ((r = .cause .ground ∧ lost s.input.debounce.groundOk) ∨
        (r = .cause .uncouple ∧ (lost s.input.debounce.liquidArm ∨ lost s.input.debounce.vapourArm)))) ∧
    (c ∈ s.trip.latched → t = s) ∧
    (c ∉ s.trip.latched →
      (∀ d, d ∈ t.trip.latched ↔ d = c ∨ d ∈ s.trip.latched) ∧
      t.loader = s.loader ∧ t.input = s.input ∧ t.peers = s.peers ∧ t.line.state = s.line.state ∧
      t.line.inFlight.map InFlight.frame = s.line.inFlight.map InFlight.frame ∧
      (siding → t.trip.outstanding = true ∧
        t.trip.list = (if s.trip.outstanding = true then
          s.trip.list.map (fun e => if e.originator = own then entry else e) else s.trip.list ++ [entry]) ∧
        (s.line.takesRequests = true → .trip ∈ t.line.outgoing ∧ .clear ∉ t.line.outgoing ∧
          (s.line.outgoing.count .trip ≤ 1 → t.line.outgoing.count .trip = 1))) ∧
      (¬ siding → t.trip.list = s.trip.list ∧ t.trip.outstanding = s.trip.outstanding ∧
        (.trip ∈ t.line.outgoing ↔ .trip ∈ s.line.outgoing) ∧
        (.clear ∈ t.line.outgoing ↔ .clear ∈ s.line.outgoing)) ∧
      (s.seq.phase = .tripped → t.seq = s.seq ∧ t.ticket = s.ticket ∧ t.valve = s.valve ∧ t.det = s.det ∧
        t.share = s.share) ∧
      (s.seq.phase ≠ .tripped → t.seq.phase = .tripped ∧ t.seq.tempCode = some (causeCode c) ∧
        t.drives = ⟨false, 0, 0, false⟩ ∧ t.seq.reason = none ∧ t.seq.drainTimer = none ∧
        t.seq.recoveryTimer = none ∧ t.seq.bleedTimer = none ∧ t.seq.residual = 0 ∧
        let written := noted .trip (16 * own + causeNumber c) s.ticket
        (s.armsUncoupled = false ∨ s.ticketOpen = false →
          t.ticket.current = written ∧ t.ticket.store = s.ticket.store ∧
          t.seq.held = match s.seq.phase with
            | .push => some .push
            | .drain => some .drain
            | .recover => some .recover
            | .close => some .close
            | .hold => s.seq.held
            | _ => none) ∧
        (s.armsUncoupled = true → ∀ k, written = some k → t.ticket.current = none ∧
          t.ticket.store = s.ticket.store ++ [{ k with
            closeTime := some s.ticket.uptime, finalThrottle := some s.det.throttle, endReason := some .tripped }] ∧
          t.seq.held = none ∧ t.seq.stopped = false ∧ t.check.baseline = none)))

/-- Good TRIP_FRAME, CLEAR_FRAME and the list repair of ANNOUNCE_FRAME (R159, R160, R161, R37, R162): an originator's entry
is set, removed or mended; the first entry of an empty list makes the entry into "TRIPPED", with the first cause's code,
"EU" for a repair, and note TRIP; a removal leaves the phase as it is. -/
def Obligations.RemoteTripsJoinTheList : Prop :=
  ∀ (s : State) (source : Address) (causeSet : Half) (payload : AnnouncePayload),
    Hears s → source.toNat ≠ s.loader.ownAddress → validSource source.toNat = true →
    let causes : EntryCauses :=
      if causeSet.toNat % 16 = 0 then .unknown
      else .known ⟨causeSet.getLsbD 0, causeSet.getLsbD 1, causeSet.getLsbD 2, causeSet.getLsbD 3⟩
    let present := s.trip.list.any (fun e => decide (e.originator = source.toNat))
    let trip := Instr.tripFrame source ⟨causeSet, frameCheck 0 source.toNat (halfBytes causeSet)⟩
    let clear := Instr.clearFrame ⟨source, frameCheck 1 source.toNat []⟩
    let announce := Instr.announceFrame source ⟨payload, frameCheck 2 source.toNat (announcePayloadBytes payload)⟩
    let flag := payload.flags.getLsbD 7
    let without := s.trip.list.filter (fun e => decide (e.originator ≠ source.toNat))
    (s.trip.list ≠ [] → ∃ t, exec trip s = .next t ∧ Untouched [.line, .peers, .trip] s t ∧
      t.trip = { s.trip with list := t.trip.list } ∧
      t.trip.list = (if present = true then
        s.trip.list.map (fun e => if e.originator = source.toNat then ⟨source.toNat, causes⟩ else e)
        else s.trip.list ++ [⟨source.toNat, causes⟩])) ∧
    (s.trip.list = [] → ∀ x ∈ [(trip, causes), (announce, .unknown)], (x.1 = announce → flag = true) →
      (s.seq.phase = .tripped → ∃ t, exec x.1 s = .next t ∧ Untouched [.line, .peers, .trip] s t ∧
        t.trip = { s.trip with list := [⟨source.toNat, x.2⟩] }) ∧
      (s.seq.phase ≠ .tripped → s.seq.phase ≠ .offline → ∃ t, exec x.1 s = .next t ∧
        Untouched [.seq, .check, .det, .valve, .line, .peers, .share, .trip, .ticket] s t ∧
        t.trip = { s.trip with list := [⟨source.toNat, x.2⟩] } ∧ t.seq.phase = .tripped ∧
        t.seq.tempCode = some (causeCode x.2.first) ∧ (x.1 = announce → t.seq.tempCode = some .eu) ∧
        t.drives = ⟨false, 0, 0, false⟩ ∧
        t.seq.drainTimer = none ∧ t.seq.recoveryTimer = none ∧ t.seq.bleedTimer = none ∧
        (s.armsUncoupled = false →
          t.ticket.current = noted .trip (16 * source.toNat + causeNumber x.2.first) s.ticket ∧
          (x.1 = announce → t.ticket.current = noted .trip (16 * source.toNat + 15) s.ticket)))) ∧
    (∃ t, exec clear s = .next t ∧ Untouched [.line, .peers, .trip] s t ∧
      t.trip = { s.trip with list := without }) ∧
    (flag = false → ∃ t, exec announce s = .next t ∧ Untouched [.line, .peers, .trip] s t ∧
      t.trip = { s.trip with list := without }) ∧
    (flag = true → present = true → ∃ t, exec announce s = .next t ∧ Untouched [.line, .peers] s t) ∧
    (flag = true → present = false → s.trip.list ≠ [] → ∃ t, exec announce s = .next t ∧
      Untouched [.line, .peers, .trip] s t ∧
      t.trip = { s.trip with list := s.trip.list ++ [⟨source.toNat, .unknown⟩] })

/-- R39, R163, R164, R165: a RESET press in "TRIPPED" is refused while an arm is uncoupled under an open ticket, or while a
cause remains, whose code it shows; a taken one clears the trips and leads to "HOLD" or "IDLE"; a long press drops the
entries of silent originators. The first of the latched causes is the lowest-numbered, since they stand in the order of
their numbers (assumption 17); that a TRIP in flight leaves the list at once is assumption 11. -/
def Obligations.ResetPressIsJudged : Prop :=
  ∀ (s : State) (p : PanelReports), TripsAgree s → s.seq.phase = .tripped →
    let cleared : Cause → Bool := fun c =>
      match c with
      | .esd => decide (s.input.debounce.esd.stable ≠ .active)
      | .gas => decide (s.input.debounce.gasAlarm.stable ≠ .active)
      | .valve => s.valve.allClosed
      | .sensor => sixAll (fun r => decide (r.status ≠ .fail)) s.input.sensors
      | .ground => s.groundOk
      | .conflict => false
      | .unknown => false
      | _ => true
    let shows := fun c : Code => { s with seq := { s.seq with tempCode := some c, tempTimer := some 0 } }
    let remotes := s.trip.list.filter (fun e => decide (e.originator ≠ s.loader.ownAddress))
    (p.reset = true → s.ticketOpen = true → s.armsCoupled = false → s.panelWork p = (shows .e9, false)) ∧
    (p.reset = true → s.ticketOpen = false ∨ s.armsCoupled = true →
      (∀ c, c ∈ s.trip.latched → cleared c = false →
        (∀ d ∈ s.trip.latched, cleared d = false → causeNumber c ≤ causeNumber d) →
        s.panelWork p = (shows (causeCode c), false)) ∧
      (s.trip.latched.all cleared = true → ∀ e rest, remotes = e :: rest →
        s.panelWork p = (shows (causeCode e.causes.first), false)) ∧
      (s.trip.latched.all cleared = true → remotes = [] → ∃ t, s.panelWork p = (t, false) ∧
        Untouched [.input, .seq, .det, .valve, .line, .share, .trip, .ticket] s t ∧
        t.trip.latched = [] ∧ t.trip.list = [] ∧
        (s.trip.list ≠ [] → t.trip.outstanding = false ∧ (s.line.takesRequests = true →
          .clear ∈ t.line.outgoing ∧ .trip ∉ t.line.outgoing)) ∧
        (s.ticketOpen = true → t.seq.phase = .hold ∧ t.seq.reason = some .trip ∧ t.seq.held = s.seq.held ∧
          t.ticket.current = noted .hold 4 s.ticket ∧ t.input = s.input) ∧
        (s.ticketOpen = false → t.seq.phase = .idle ∧ t.seq.held = none ∧ t.input.identity = [] ∧
          t.ticket.store = s.ticket.store))) ∧
    (p.reset = false → p.longPress = true → ∃ t, s.panelWork p = (t, false) ∧ Untouched [.trip] s t ∧
      t.trip = { s.trip with list := t.trip.list } ∧ t.trip.list.Sublist s.trip.list ∧
      ∀ e, e ∈ t.trip.list ↔ e ∈ s.trip.list ∧
        (e.originator = s.loader.ownAddress ∨ ∃ r, findPeer s.peers e.originator = some r ∧ r.liveness ≠ .lapsed))

/-! ## Transfer tickets -/

/-- R170, R172: the ticket unit at a sample event: both masses and the peak, held at their limits, and note METER once per
phase when liquid pulses come with LV commanded and confirmed closed; it writes nothing but the open ticket and the
marker. -/
def Obligations.SampleMetersTheOpenTicket : Prop :=
  ∀ s : State, ∃ t, s.ticketWork = t ∧ Untouched [.ticket] s t ∧
    t.ticket.store = s.ticket.store ∧ t.ticket.nextNumber = s.ticket.nextNumber ∧
    t.ticket.uptime = s.ticket.uptime ∧ t.ticket.series = s.ticket.series ∧
    (s.ticket.current = none → t.ticket = s.ticket) ∧
    (∀ k, s.ticket.current = some k →
      let metered := { k with
        delivered := min 4294967295 (k.delivered + s.input.liquidSample * s.cfg.liquidGrams)
        recovered := min 4294967295 (k.recovered + s.input.vapourSample * s.cfg.vapourGrams)
        peak := max k.peak s.input.flow }
      let meters := 0 < s.input.liquidSample ∧ s.valve.lvCommand = .closed ∧ s.valve.lv.state = .closed ∧
        s.ticket.meterMarker = false
      (¬ meters → t.ticket = { s.ticket with current := some metered }) ∧
      (meters → t.ticket.meterMarker = true ∧ t.ticket.current =
        noted .meter s.seq.phase.code { s.ticket with current := some metered }))

/-- INQUIRY and COLLECT (R176, R179, R175, R108): an observer's INQUIRY for the station queues a series of the parts of the
ticket it names, or one NONE part, unless a series is pending or the controller is silent; its COLLECT takes the named
closed ticket out of the store unless the pending series names it. Any other changes nothing of the tickets. That a
series for a number no ticket bears protects that number too is assumption 16; what the end of the frame leaves on the line, the
record of its ack slot and both runs at 0, is assumptions 8 and 9. -/
def Obligations.ObserversAskAndCollect : Prop :=
  ∀ (s : State) (source : Address) (target : Byte) (number : Half),
    Hears s → source.toNat ≠ s.loader.ownAddress → validSource source.toNat = true →
    let addressed := 24 ≤ source.toNat ∧ target.toNat = s.loader.ownAddress
    let parts := fun k : Ticket => 4 + (k.notes.length + 1) / 2
    let ended := frameOver (acksGood s) s.line
    let checked := fun kind : Nat => Checked.mk number (frameCheck kind source.toNat (target :: halfBytes number))
    let all := s.ticket.current.toList ++ s.ticket.store
    (∃ t, exec (.inquiry source target (checked 3)) s = .next t ∧ Untouched [.line, .peers, .ticket] s t ∧
      (¬ addressed ∨ s.ticket.series.isSome = true ∨ s.line.state = .silent →
        t.ticket = s.ticket ∧ t.line = ended) ∧
      (addressed → s.ticket.series = none → s.line.state ≠ .silent → ∃ series : Series,
        t.ticket = { s.ticket with series := some series } ∧
        t.line = { ended with
          outgoing := s.line.outgoing ++ (List.range series.parts).map (fun i => .report (i + 1)) } ∧
        (number.toNat = 0 → s.ticket.store = [] → series = ⟨0, 1⟩) ∧
        (∀ k rest, number.toNat = 0 → s.ticket.store = k :: rest → series = ⟨k.number, parts k⟩) ∧
        (∀ k, number.toNat ≠ 0 → all.find? (fun x => decide (x.number = number.toNat)) = some k →
          series = ⟨number.toNat, parts k⟩) ∧
        (number.toNat ≠ 0 → number.toNat ∉ all.map Ticket.number → series = ⟨number.toNat, 1⟩))) ∧
    (∃ t, exec (.collect source target (checked 5)) s = .next t ∧ Untouched [.line, .peers, .ticket] s t ∧
      t.line = ended ∧
      (¬ addressed ∨ s.ticket.series.map Series.number = some number.toNat → t.ticket = s.ticket) ∧
      (addressed → s.ticket.series.map Series.number ≠ some number.toNat → t.ticket = { s.ticket with
        store := s.ticket.store.filter (fun k => decide (k.number ≠ number.toNat)) }))

/-- R176, R177, section 10.7: what an observer reads out of the parts of a ticket's series: number, part and count in each,
part lengths, status, station address, end reason, throttle level (the present one of an open ticket), open and close
time, peak flow, both masses in grams, the identity, and each note with its stamp counted from the open time. -/
def Obligations.ReportPartsCarryTheTicket : Prop :=
  ∀ (s : State) (series : Series) (k : Ticket),
    s.ticket.series = some series → 4 ≤ series.parts → series.parts ≤ 8 → series.number ≤ 65535 →
    s.ticket.find series.number = some k → k.notes.length ≤ 8 → k.identity.length ≤ 12 →
    k.delivered ≤ 4294967295 → k.recovered ≤ 4294967295 →
    k.station ≤ 16 → k.peak ≤ 65535 → k.openTime ≤ 4294967295 → k.closeTime.getD 0 ≤ 4294967295 →
    s.det.throttle ≤ 4 → k.finalThrottle.getD 0 ≤ 4 → (∀ n ∈ k.notes, n.value < 4096) →
    let value := fun bytes : List Byte => bytes.foldl (fun n b => 256 * n + b.toNat) 0
    let field := fun part first n : Nat => ((s.reportPayload part).drop first).take n
    (∀ part, part ≤ 8 → value (field part 0 2) = series.number ∧ value (field part 2 1) = part ∧
      value (field part 3 1) = series.parts) ∧
    (s.reportPayload 1).length = 15 ∧ (s.reportPayload 2).length = 15 ∧ (s.reportPayload 3).length = 15 ∧
    (s.reportPayload 4).length = 11 ∧
    (value (field 1 4 1) = if k.endReason.isSome then 2 else 1) ∧
    value (field 1 5 1) = k.station ∧
    (value (field 1 6 1) = match k.endReason with
      | none => 0 | some .complete => 1 | some .stopped => 2 | some .tripped => 3 | some .reset => 4) ∧
    (k.finalThrottle = none → value (field 1 7 1) = s.det.throttle) ∧
    (∀ level, k.finalThrottle = some level → value (field 1 7 1) = level) ∧
    value (field 1 9 4) = k.openTime ∧ value (field 1 13 2) = k.peak ∧
    (k.closeTime = none → value (field 2 4 4) = 0) ∧ (∀ n, k.closeTime = some n → value (field 2 4 4) = n) ∧
    value (field 1 8 1) % 128 = k.notes.length ∧ (128 ≤ value (field 1 8 1) ↔ k.overflow = true) ∧
    value (field 2 8 4) * 1000 + value (field 2 12 2) = k.delivered ∧
    value (field 3 4 4) * 1000 + value (field 3 8 2) = k.recovered ∧
    value (field 2 14 1) = k.identity.length ∧
    (field 3 10 5 ++ field 4 4 7).take k.identity.length = k.identity ∧
    (∀ i n, k.notes[i]? = some n →
      value (field (5 + i / 2) (4 + 5 * (i % 2)) 2) = 4096 * n.kind.code + n.value ∧
      value (field (5 + i / 2) (6 + 5 * (i % 2)) 3) = min 16777215 (n.stamp - k.openTime))

/-! ## What every step keeps -/

/-- R81, R85, R86, R87, R92: the valve commands go with the phase and its step at every step, and no opening stands above its
target. -/
def Obligations.StepKeepsInterlocks : Prop :=
  ∀ s t : State, Interlocked s → step s = .next t → Interlocked t

/-- R154, R156, R158, R37: the trip list, the trip-outstanding indication, the latched causes and the phase agree at every
step. -/
def Obligations.StepKeepsTripsAgreeing : Prop :=
  ∀ s t : State, TripsAgree s → step s = .next t → TripsAgree t

/-- R119, R120, R183: the peer table keeps one record for an address at most, none of the own address, only of addresses
that a source may have, and so never more than 22. -/
def Obligations.StepKeepsPeerTable : Prop :=
  ∀ s t : State, PeersKept s → step s = .next t → PeersKept t ∧ t.peers.length ≤ 22

/-- R109, R110, R108, R111, R116: the order and the contents of the outgoing list at every step. That TRIP and CLEAR never
stand together, and that a frame removed in flight is out of the list at once, is assumption 11. -/
def Obligations.StepKeepsOutgoingOrder : Prop :=
  ∀ s t : State, OutgoingOrdered s → step s = .next t → OutgoingOrdered t

/-- R169, R174: a ticket is open in the phases of R174 alone, the store never holds more than four, and no two tickets bear
one number, at every step. -/
def Obligations.StepKeepsTicketNumbers : Prop :=
  ∀ s t : State, NumbersDiffer s → step s = .next t → NumbersDiffer t

/-- Section 2.1, R27, R33, R35, R37, R38: the hold reason and the held phase go with the phase, and the check step with
"CHECK", at every step; R65, R145: outside "PUSH" no liquid-out detection and no starvation is under way. -/
def Obligations.StepKeepsHoldAndCheck : Prop :=
  ∀ s t : State, step s = .next t → (HoldKept s → HoldKept t) ∧ (CheckInPhase s → CheckInPhase t) ∧
    (PushQuiet s → PushQuiet t)

/-- R143: the bounds of the grants at every step. -/
def Obligations.StepKeepsGrantBounds : Prop :=
  ∀ s t : State, GrantsBounded s → step s = .next t → GrantsBounded t

/-! ## Rules of the whole part -/

/-- Which events alone leave a state or make a change: "TRIPPED" by a sample event or a reset (R39, R160), "OFFLINE" by a valid
image (R19, R188), "SILENT" by a reset (R108), a latched CONFLICT by a reset (R163), a ticket opened by a passed check
(R53). -/
def Obligations.OnlyTheirEventsLeaveStates : Prop :=
  ∀ (c : Instr) (s t : State), OfflineQuiet s → exec c s = .next t →
    (s.seq.phase = .tripped → t.seq.phase ≠ .tripped →
      c = .por ∨ c = .rstn ∨ ∃ counts levels order, c = .sampleEvent counts levels order) ∧
    (s.seq.phase = .offline → t.seq.phase ≠ .offline →
      t.seq.phase = .idle ∧ ∃ image, c = .imageReadComplete image ∧ judgeImage image.toList = none) ∧
    (s.line.state = .silent → t.line.state ≠ .silent → c = .por ∨ c = .rstn) ∧
    (.conflict ∈ s.trip.latched → .conflict ∉ t.trip.latched → c = .por ∨ c = .rstn) ∧
    (s.ticketOpen = false → t.ticketOpen = true → c = .checkTimerExpiry ∧ t.seq.phase = .push)

/-- R183, R188, R168: the configuration, the signature and the own address stay as they are from the release to the next
reset, and the uptime moves by UPTIME_SECOND and POR alone. -/
def Obligations.ConfigurationStandsUntilReset : Prop :=
  ∀ (c : Instr) (s t : State), OfflineQuiet s → exec c s = .next t →
    (s.seq.phase ≠ .offline → c ≠ .por → c ≠ .rstn →
      t.seq.phase ≠ .offline ∧ t.resetting = none ∧ t.loader.inUse = s.loader.inUse ∧
      t.loader.signature = s.loader.signature ∧ t.loader.ownAddress = s.loader.ownAddress ∧
      t.loader.state = .released ∧ t.loader.cause = s.loader.cause) ∧
    (c ≠ .por → c ≠ .uptimeSecond → t.ticket.uptime = s.ticket.uptime) ∧
    (c ≠ .por → s.ticket.uptime ≤ 4294967295 → s.ticket.uptime ≤ t.ticket.uptime)

/-- R170, R173, R174, R175: no command but POR and COLLECT takes a ticket out of the store, COLLECT's frame also where it is
given, ill-formed, as a FRAME_DISCARDED of its kind 5 (assumption 18); the open ticket stays open with its number, station,
identity and open time, its masses and peak never falling and its notes never leaving it, or is the last of the store,
closed. -/
def Obligations.TicketsAreNeverLost : Prop :=
  ∀ (c : Instr) (s t : State), TicketsAgree s → exec c s = .next t → c ≠ .por →
    ((∀ source target number, c ≠ .collect source target number) → (∀ source payload, c ≠ .frameDiscarded 5 source payload) →
      s.ticket.store <+: t.ticket.store) ∧
    (∀ k, s.ticket.current = some k → k.delivered ≤ 4294967295 → k.recovered ≤ 4294967295 →
      ∃ m, m.number = k.number ∧ m.station = k.station ∧ m.identity = k.identity ∧ m.openTime = k.openTime ∧
        k.delivered ≤ m.delivered ∧ m.delivered ≤ 4294967295 ∧ k.recovered ≤ m.recovered ∧
        m.recovered ≤ 4294967295 ∧ k.peak ≤ m.peak ∧
        k.notes <+: m.notes ∧ (k.overflow = true → m.overflow = true) ∧
        (t.ticket.current = some m ∨
          (t.ticket.current = none ∧ t.ticket.store = s.ticket.store ++ [m] ∧
            m.closeTime = some s.ticket.uptime ∧ m.finalThrottle.isSome = true ∧ m.endReason.isSome = true)))
end

