-- ==== Sys2Proof/Laws/Crc.lean ====
section
/-!
SUPPORT. The CRC register stays within 16 bits, and an image that ends in the two bytes of its own CRC reads it back at
its last two bytes.
-/

namespace Sys2Proof.Machine

open Sys2Proof

theorem crcBit_lt (reg : Nat) (bit : Bool) : crcBit reg bit < 65536 := by
  unfold crcBit
  dsimp only
  split
  · exact Nat.xor_lt_two_pow (n := 16) (Nat.mod_lt _ (by decide)) (by decide)
  · exact Nat.mod_lt _ (by decide)

theorem crcBits_lt (bits : List Bool) (reg : Nat) (h : reg < 65536) : crcBits reg bits < 65536 := by
  induction bits generalizing reg with
  | nil => exact h
  | cons b rest ih => exact ih _ (crcBit_lt reg b)

/-- R99, R184: the CRC of any bytes is a 16-bit value. -/
theorem crcBytes_lt (bytes : List Byte) : crcBytes bytes < 65536 := by
  have key : ∀ (l : List Byte) (reg : Nat), reg < 65536 →
      l.foldl (fun r b => crcBits r (bitsOfNat 8 b.toNat)) reg < 65536 := by
    intro l
    induction l with
    | nil => exact fun _ h => h
    | cons b rest ih => exact fun reg h => ih _ (crcBits_lt _ _ h)
  exact key bytes 0xFFFF (by decide)

/-- Section 11.3: two bytes behind 190 others, most significant first, are read as one number. -/
theorem halfAt_end (bytes : List Byte) (n : Nat) (hl : bytes.length = 190) (hn : n < 65536) :
    halfAt (bytes ++ bytesOfNat16 n) 190 = n := by
  simp [halfAt, byteAt, bytesOfNat16, List.getD_eq_getElem?_getD, hl]
  omega

end Sys2Proof.Machine
end

