-- ==== Sys2Proof/Laws/State.lean ====
section
/-!
SUPPORT. One lemma per field and update of the whole state, each true by `rfl`: later proofs never unfold a record
update. The lemmas about `cfg` and `ticketOpen` say the same of the two views that most rules read.
-/

namespace Sys2Proof.Machine

open Sys2Proof

variable (s : State)

/-! ### `onLoader` -/

@[simp] theorem State.onLoader_resetting (f : Loader → Loader) : (s.onLoader f).resetting = s.resetting := rfl
@[simp] theorem State.onLoader_loader (f : Loader → Loader) : (s.onLoader f).loader = f s.loader := rfl
@[simp] theorem State.onLoader_input (f : Loader → Loader) : (s.onLoader f).input = s.input := rfl
@[simp] theorem State.onLoader_seq (f : Loader → Loader) : (s.onLoader f).seq = s.seq := rfl
@[simp] theorem State.onLoader_check (f : Loader → Loader) : (s.onLoader f).check = s.check := rfl
@[simp] theorem State.onLoader_det (f : Loader → Loader) : (s.onLoader f).det = s.det := rfl
@[simp] theorem State.onLoader_valve (f : Loader → Loader) : (s.onLoader f).valve = s.valve := rfl
@[simp] theorem State.onLoader_line (f : Loader → Loader) : (s.onLoader f).line = s.line := rfl
@[simp] theorem State.onLoader_peers (f : Loader → Loader) : (s.onLoader f).peers = s.peers := rfl
@[simp] theorem State.onLoader_share (f : Loader → Loader) : (s.onLoader f).share = s.share := rfl
@[simp] theorem State.onLoader_trip (f : Loader → Loader) : (s.onLoader f).trip = s.trip := rfl
@[simp] theorem State.onLoader_ticket (f : Loader → Loader) : (s.onLoader f).ticket = s.ticket := rfl
@[simp] theorem State.onLoader_pending (f : Loader → Loader) : (s.onLoader f).pending = s.pending := rfl
@[simp] theorem State.onLoader_ticketOpen (f : Loader → Loader) : (s.onLoader f).ticketOpen = s.ticketOpen := rfl

/-! ### `onInput` -/

@[simp] theorem State.onInput_resetting (f : InputUnit → InputUnit) : (s.onInput f).resetting = s.resetting := rfl
@[simp] theorem State.onInput_loader (f : InputUnit → InputUnit) : (s.onInput f).loader = s.loader := rfl
@[simp] theorem State.onInput_input (f : InputUnit → InputUnit) : (s.onInput f).input = f s.input := rfl
@[simp] theorem State.onInput_seq (f : InputUnit → InputUnit) : (s.onInput f).seq = s.seq := rfl
@[simp] theorem State.onInput_check (f : InputUnit → InputUnit) : (s.onInput f).check = s.check := rfl
@[simp] theorem State.onInput_det (f : InputUnit → InputUnit) : (s.onInput f).det = s.det := rfl
@[simp] theorem State.onInput_valve (f : InputUnit → InputUnit) : (s.onInput f).valve = s.valve := rfl
@[simp] theorem State.onInput_line (f : InputUnit → InputUnit) : (s.onInput f).line = s.line := rfl
@[simp] theorem State.onInput_peers (f : InputUnit → InputUnit) : (s.onInput f).peers = s.peers := rfl
@[simp] theorem State.onInput_share (f : InputUnit → InputUnit) : (s.onInput f).share = s.share := rfl
@[simp] theorem State.onInput_trip (f : InputUnit → InputUnit) : (s.onInput f).trip = s.trip := rfl
@[simp] theorem State.onInput_ticket (f : InputUnit → InputUnit) : (s.onInput f).ticket = s.ticket := rfl
@[simp] theorem State.onInput_pending (f : InputUnit → InputUnit) : (s.onInput f).pending = s.pending := rfl
@[simp] theorem State.onInput_cfg (f : InputUnit → InputUnit) : (s.onInput f).cfg = s.cfg := rfl
@[simp] theorem State.onInput_ticketOpen (f : InputUnit → InputUnit) : (s.onInput f).ticketOpen = s.ticketOpen := rfl

/-! ### `onSeq` -/

@[simp] theorem State.onSeq_resetting (f : Sequence → Sequence) : (s.onSeq f).resetting = s.resetting := rfl
@[simp] theorem State.onSeq_loader (f : Sequence → Sequence) : (s.onSeq f).loader = s.loader := rfl
@[simp] theorem State.onSeq_input (f : Sequence → Sequence) : (s.onSeq f).input = s.input := rfl
@[simp] theorem State.onSeq_seq (f : Sequence → Sequence) : (s.onSeq f).seq = f s.seq := rfl
@[simp] theorem State.onSeq_check (f : Sequence → Sequence) : (s.onSeq f).check = s.check := rfl
@[simp] theorem State.onSeq_det (f : Sequence → Sequence) : (s.onSeq f).det = s.det := rfl
@[simp] theorem State.onSeq_valve (f : Sequence → Sequence) : (s.onSeq f).valve = s.valve := rfl
@[simp] theorem State.onSeq_line (f : Sequence → Sequence) : (s.onSeq f).line = s.line := rfl
@[simp] theorem State.onSeq_peers (f : Sequence → Sequence) : (s.onSeq f).peers = s.peers := rfl
@[simp] theorem State.onSeq_share (f : Sequence → Sequence) : (s.onSeq f).share = s.share := rfl
@[simp] theorem State.onSeq_trip (f : Sequence → Sequence) : (s.onSeq f).trip = s.trip := rfl
@[simp] theorem State.onSeq_ticket (f : Sequence → Sequence) : (s.onSeq f).ticket = s.ticket := rfl
@[simp] theorem State.onSeq_pending (f : Sequence → Sequence) : (s.onSeq f).pending = s.pending := rfl
@[simp] theorem State.onSeq_cfg (f : Sequence → Sequence) : (s.onSeq f).cfg = s.cfg := rfl
@[simp] theorem State.onSeq_ticketOpen (f : Sequence → Sequence) : (s.onSeq f).ticketOpen = s.ticketOpen := rfl

/-! ### `onCheck` -/

@[simp] theorem State.onCheck_resetting (f : CheckUnit → CheckUnit) : (s.onCheck f).resetting = s.resetting := rfl
@[simp] theorem State.onCheck_loader (f : CheckUnit → CheckUnit) : (s.onCheck f).loader = s.loader := rfl
@[simp] theorem State.onCheck_input (f : CheckUnit → CheckUnit) : (s.onCheck f).input = s.input := rfl
@[simp] theorem State.onCheck_seq (f : CheckUnit → CheckUnit) : (s.onCheck f).seq = s.seq := rfl
@[simp] theorem State.onCheck_check (f : CheckUnit → CheckUnit) : (s.onCheck f).check = f s.check := rfl
@[simp] theorem State.onCheck_det (f : CheckUnit → CheckUnit) : (s.onCheck f).det = s.det := rfl
@[simp] theorem State.onCheck_valve (f : CheckUnit → CheckUnit) : (s.onCheck f).valve = s.valve := rfl
@[simp] theorem State.onCheck_line (f : CheckUnit → CheckUnit) : (s.onCheck f).line = s.line := rfl
@[simp] theorem State.onCheck_peers (f : CheckUnit → CheckUnit) : (s.onCheck f).peers = s.peers := rfl
@[simp] theorem State.onCheck_share (f : CheckUnit → CheckUnit) : (s.onCheck f).share = s.share := rfl
@[simp] theorem State.onCheck_trip (f : CheckUnit → CheckUnit) : (s.onCheck f).trip = s.trip := rfl
@[simp] theorem State.onCheck_ticket (f : CheckUnit → CheckUnit) : (s.onCheck f).ticket = s.ticket := rfl
@[simp] theorem State.onCheck_pending (f : CheckUnit → CheckUnit) : (s.onCheck f).pending = s.pending := rfl
@[simp] theorem State.onCheck_cfg (f : CheckUnit → CheckUnit) : (s.onCheck f).cfg = s.cfg := rfl
@[simp] theorem State.onCheck_ticketOpen (f : CheckUnit → CheckUnit) : (s.onCheck f).ticketOpen = s.ticketOpen := rfl

/-! ### `onDet` -/

@[simp] theorem State.onDet_resetting (f : DetectorUnit → DetectorUnit) : (s.onDet f).resetting = s.resetting := rfl
@[simp] theorem State.onDet_loader (f : DetectorUnit → DetectorUnit) : (s.onDet f).loader = s.loader := rfl
@[simp] theorem State.onDet_input (f : DetectorUnit → DetectorUnit) : (s.onDet f).input = s.input := rfl
@[simp] theorem State.onDet_seq (f : DetectorUnit → DetectorUnit) : (s.onDet f).seq = s.seq := rfl
@[simp] theorem State.onDet_check (f : DetectorUnit → DetectorUnit) : (s.onDet f).check = s.check := rfl
@[simp] theorem State.onDet_det (f : DetectorUnit → DetectorUnit) : (s.onDet f).det = f s.det := rfl
@[simp] theorem State.onDet_valve (f : DetectorUnit → DetectorUnit) : (s.onDet f).valve = s.valve := rfl
@[simp] theorem State.onDet_line (f : DetectorUnit → DetectorUnit) : (s.onDet f).line = s.line := rfl
@[simp] theorem State.onDet_peers (f : DetectorUnit → DetectorUnit) : (s.onDet f).peers = s.peers := rfl
@[simp] theorem State.onDet_share (f : DetectorUnit → DetectorUnit) : (s.onDet f).share = s.share := rfl
@[simp] theorem State.onDet_trip (f : DetectorUnit → DetectorUnit) : (s.onDet f).trip = s.trip := rfl
@[simp] theorem State.onDet_ticket (f : DetectorUnit → DetectorUnit) : (s.onDet f).ticket = s.ticket := rfl
@[simp] theorem State.onDet_pending (f : DetectorUnit → DetectorUnit) : (s.onDet f).pending = s.pending := rfl
@[simp] theorem State.onDet_cfg (f : DetectorUnit → DetectorUnit) : (s.onDet f).cfg = s.cfg := rfl
@[simp] theorem State.onDet_ticketOpen (f : DetectorUnit → DetectorUnit) : (s.onDet f).ticketOpen = s.ticketOpen := rfl

/-! ### `onValve` -/

@[simp] theorem State.onValve_resetting (f : ValveDriver → ValveDriver) : (s.onValve f).resetting = s.resetting := rfl
@[simp] theorem State.onValve_loader (f : ValveDriver → ValveDriver) : (s.onValve f).loader = s.loader := rfl
@[simp] theorem State.onValve_input (f : ValveDriver → ValveDriver) : (s.onValve f).input = s.input := rfl
@[simp] theorem State.onValve_seq (f : ValveDriver → ValveDriver) : (s.onValve f).seq = s.seq := rfl
@[simp] theorem State.onValve_check (f : ValveDriver → ValveDriver) : (s.onValve f).check = s.check := rfl
@[simp] theorem State.onValve_det (f : ValveDriver → ValveDriver) : (s.onValve f).det = s.det := rfl
@[simp] theorem State.onValve_valve (f : ValveDriver → ValveDriver) : (s.onValve f).valve = f s.valve := rfl
@[simp] theorem State.onValve_line (f : ValveDriver → ValveDriver) : (s.onValve f).line = s.line := rfl
@[simp] theorem State.onValve_peers (f : ValveDriver → ValveDriver) : (s.onValve f).peers = s.peers := rfl
@[simp] theorem State.onValve_share (f : ValveDriver → ValveDriver) : (s.onValve f).share = s.share := rfl
@[simp] theorem State.onValve_trip (f : ValveDriver → ValveDriver) : (s.onValve f).trip = s.trip := rfl
@[simp] theorem State.onValve_ticket (f : ValveDriver → ValveDriver) : (s.onValve f).ticket = s.ticket := rfl
@[simp] theorem State.onValve_pending (f : ValveDriver → ValveDriver) : (s.onValve f).pending = s.pending := rfl
@[simp] theorem State.onValve_cfg (f : ValveDriver → ValveDriver) : (s.onValve f).cfg = s.cfg := rfl
@[simp] theorem State.onValve_ticketOpen (f : ValveDriver → ValveDriver) : (s.onValve f).ticketOpen = s.ticketOpen := rfl

/-! ### `onLine` -/

@[simp] theorem State.onLine_resetting (f : LineController → LineController) : (s.onLine f).resetting = s.resetting := rfl
@[simp] theorem State.onLine_loader (f : LineController → LineController) : (s.onLine f).loader = s.loader := rfl
@[simp] theorem State.onLine_input (f : LineController → LineController) : (s.onLine f).input = s.input := rfl
@[simp] theorem State.onLine_seq (f : LineController → LineController) : (s.onLine f).seq = s.seq := rfl
@[simp] theorem State.onLine_check (f : LineController → LineController) : (s.onLine f).check = s.check := rfl
@[simp] theorem State.onLine_det (f : LineController → LineController) : (s.onLine f).det = s.det := rfl
@[simp] theorem State.onLine_valve (f : LineController → LineController) : (s.onLine f).valve = s.valve := rfl
@[simp] theorem State.onLine_line (f : LineController → LineController) : (s.onLine f).line = f s.line := rfl
@[simp] theorem State.onLine_peers (f : LineController → LineController) : (s.onLine f).peers = s.peers := rfl
@[simp] theorem State.onLine_share (f : LineController → LineController) : (s.onLine f).share = s.share := rfl
@[simp] theorem State.onLine_trip (f : LineController → LineController) : (s.onLine f).trip = s.trip := rfl
@[simp] theorem State.onLine_ticket (f : LineController → LineController) : (s.onLine f).ticket = s.ticket := rfl
@[simp] theorem State.onLine_pending (f : LineController → LineController) : (s.onLine f).pending = s.pending := rfl
@[simp] theorem State.onLine_cfg (f : LineController → LineController) : (s.onLine f).cfg = s.cfg := rfl
@[simp] theorem State.onLine_ticketOpen (f : LineController → LineController) : (s.onLine f).ticketOpen = s.ticketOpen := rfl

/-! ### `onPeers` -/

@[simp] theorem State.onPeers_resetting (f : List Peer → List Peer) : (s.onPeers f).resetting = s.resetting := rfl
@[simp] theorem State.onPeers_loader (f : List Peer → List Peer) : (s.onPeers f).loader = s.loader := rfl
@[simp] theorem State.onPeers_input (f : List Peer → List Peer) : (s.onPeers f).input = s.input := rfl
@[simp] theorem State.onPeers_seq (f : List Peer → List Peer) : (s.onPeers f).seq = s.seq := rfl
@[simp] theorem State.onPeers_check (f : List Peer → List Peer) : (s.onPeers f).check = s.check := rfl
@[simp] theorem State.onPeers_det (f : List Peer → List Peer) : (s.onPeers f).det = s.det := rfl
@[simp] theorem State.onPeers_valve (f : List Peer → List Peer) : (s.onPeers f).valve = s.valve := rfl
@[simp] theorem State.onPeers_line (f : List Peer → List Peer) : (s.onPeers f).line = s.line := rfl
@[simp] theorem State.onPeers_peers (f : List Peer → List Peer) : (s.onPeers f).peers = f s.peers := rfl
@[simp] theorem State.onPeers_share (f : List Peer → List Peer) : (s.onPeers f).share = s.share := rfl
@[simp] theorem State.onPeers_trip (f : List Peer → List Peer) : (s.onPeers f).trip = s.trip := rfl
@[simp] theorem State.onPeers_ticket (f : List Peer → List Peer) : (s.onPeers f).ticket = s.ticket := rfl
@[simp] theorem State.onPeers_pending (f : List Peer → List Peer) : (s.onPeers f).pending = s.pending := rfl
@[simp] theorem State.onPeers_cfg (f : List Peer → List Peer) : (s.onPeers f).cfg = s.cfg := rfl
@[simp] theorem State.onPeers_ticketOpen (f : List Peer → List Peer) : (s.onPeers f).ticketOpen = s.ticketOpen := rfl

/-! ### `onShare` -/

@[simp] theorem State.onShare_resetting (f : ShareUnit → ShareUnit) : (s.onShare f).resetting = s.resetting := rfl
@[simp] theorem State.onShare_loader (f : ShareUnit → ShareUnit) : (s.onShare f).loader = s.loader := rfl
@[simp] theorem State.onShare_input (f : ShareUnit → ShareUnit) : (s.onShare f).input = s.input := rfl
@[simp] theorem State.onShare_seq (f : ShareUnit → ShareUnit) : (s.onShare f).seq = s.seq := rfl
@[simp] theorem State.onShare_check (f : ShareUnit → ShareUnit) : (s.onShare f).check = s.check := rfl
@[simp] theorem State.onShare_det (f : ShareUnit → ShareUnit) : (s.onShare f).det = s.det := rfl
@[simp] theorem State.onShare_valve (f : ShareUnit → ShareUnit) : (s.onShare f).valve = s.valve := rfl
@[simp] theorem State.onShare_line (f : ShareUnit → ShareUnit) : (s.onShare f).line = s.line := rfl
@[simp] theorem State.onShare_peers (f : ShareUnit → ShareUnit) : (s.onShare f).peers = s.peers := rfl
@[simp] theorem State.onShare_share (f : ShareUnit → ShareUnit) : (s.onShare f).share = f s.share := rfl
@[simp] theorem State.onShare_trip (f : ShareUnit → ShareUnit) : (s.onShare f).trip = s.trip := rfl
@[simp] theorem State.onShare_ticket (f : ShareUnit → ShareUnit) : (s.onShare f).ticket = s.ticket := rfl
@[simp] theorem State.onShare_pending (f : ShareUnit → ShareUnit) : (s.onShare f).pending = s.pending := rfl
@[simp] theorem State.onShare_cfg (f : ShareUnit → ShareUnit) : (s.onShare f).cfg = s.cfg := rfl
@[simp] theorem State.onShare_ticketOpen (f : ShareUnit → ShareUnit) : (s.onShare f).ticketOpen = s.ticketOpen := rfl

/-! ### `onTrip` -/

@[simp] theorem State.onTrip_resetting (f : TripUnit → TripUnit) : (s.onTrip f).resetting = s.resetting := rfl
@[simp] theorem State.onTrip_loader (f : TripUnit → TripUnit) : (s.onTrip f).loader = s.loader := rfl
@[simp] theorem State.onTrip_input (f : TripUnit → TripUnit) : (s.onTrip f).input = s.input := rfl
@[simp] theorem State.onTrip_seq (f : TripUnit → TripUnit) : (s.onTrip f).seq = s.seq := rfl
@[simp] theorem State.onTrip_check (f : TripUnit → TripUnit) : (s.onTrip f).check = s.check := rfl
@[simp] theorem State.onTrip_det (f : TripUnit → TripUnit) : (s.onTrip f).det = s.det := rfl
@[simp] theorem State.onTrip_valve (f : TripUnit → TripUnit) : (s.onTrip f).valve = s.valve := rfl
@[simp] theorem State.onTrip_line (f : TripUnit → TripUnit) : (s.onTrip f).line = s.line := rfl
@[simp] theorem State.onTrip_peers (f : TripUnit → TripUnit) : (s.onTrip f).peers = s.peers := rfl
@[simp] theorem State.onTrip_share (f : TripUnit → TripUnit) : (s.onTrip f).share = s.share := rfl
@[simp] theorem State.onTrip_trip (f : TripUnit → TripUnit) : (s.onTrip f).trip = f s.trip := rfl
@[simp] theorem State.onTrip_ticket (f : TripUnit → TripUnit) : (s.onTrip f).ticket = s.ticket := rfl
@[simp] theorem State.onTrip_pending (f : TripUnit → TripUnit) : (s.onTrip f).pending = s.pending := rfl
@[simp] theorem State.onTrip_cfg (f : TripUnit → TripUnit) : (s.onTrip f).cfg = s.cfg := rfl
@[simp] theorem State.onTrip_ticketOpen (f : TripUnit → TripUnit) : (s.onTrip f).ticketOpen = s.ticketOpen := rfl

/-! ### `onTicket` -/

@[simp] theorem State.onTicket_resetting (f : TicketUnit → TicketUnit) : (s.onTicket f).resetting = s.resetting := rfl
@[simp] theorem State.onTicket_loader (f : TicketUnit → TicketUnit) : (s.onTicket f).loader = s.loader := rfl
@[simp] theorem State.onTicket_input (f : TicketUnit → TicketUnit) : (s.onTicket f).input = s.input := rfl
@[simp] theorem State.onTicket_seq (f : TicketUnit → TicketUnit) : (s.onTicket f).seq = s.seq := rfl
@[simp] theorem State.onTicket_check (f : TicketUnit → TicketUnit) : (s.onTicket f).check = s.check := rfl
@[simp] theorem State.onTicket_det (f : TicketUnit → TicketUnit) : (s.onTicket f).det = s.det := rfl
@[simp] theorem State.onTicket_valve (f : TicketUnit → TicketUnit) : (s.onTicket f).valve = s.valve := rfl
@[simp] theorem State.onTicket_line (f : TicketUnit → TicketUnit) : (s.onTicket f).line = s.line := rfl
@[simp] theorem State.onTicket_peers (f : TicketUnit → TicketUnit) : (s.onTicket f).peers = s.peers := rfl
@[simp] theorem State.onTicket_share (f : TicketUnit → TicketUnit) : (s.onTicket f).share = s.share := rfl
@[simp] theorem State.onTicket_trip (f : TicketUnit → TicketUnit) : (s.onTicket f).trip = s.trip := rfl
@[simp] theorem State.onTicket_ticket (f : TicketUnit → TicketUnit) : (s.onTicket f).ticket = f s.ticket := rfl
@[simp] theorem State.onTicket_pending (f : TicketUnit → TicketUnit) : (s.onTicket f).pending = s.pending := rfl
@[simp] theorem State.onTicket_cfg (f : TicketUnit → TicketUnit) : (s.onTicket f).cfg = s.cfg := rfl

end Sys2Proof.Machine
end

