-- ==== Sys2Proof/Laws/Ops.lean ====
section
/-!
SUPPORT. What each shared operation of Ops.lean can do: which blocks it leaves alone (`Untouched`), one lemma per block
it leaves alone for `simp`, and one lemma for each block it writes. Later proofs cite these and do not unfold the
operations.
-/

namespace Sys2Proof.Machine

open Sys2Proof

/-! ## `Untouched` -/

theorem Untouched.refl (l : List Block) (s : State) : Untouched l s s := by
  intro b _
  cases b <;> exact rfl

theorem Untouched.weaken {l m : List Block} {s t : State} (h : Untouched l s t) (hs : l ⊆ m) : Untouched m s t :=
  fun b hb => h b (fun hl => hb (hs hl))

theorem Untouched.trans {l : List Block} {s t u : State} (h : Untouched l s t) (k : Untouched l t u) :
    Untouched l s u := by
  intro b hb
  have h1 := h b hb
  have h2 := k b hb
  cases b <;> exact Eq.trans h2 h1

variable (s : State)

/-! ## Blocks that an operation leaves alone -/

/-! ### `note` -/

@[simp] theorem State.note_resetting (k : NoteKind) (v : Nat) : (s.note k v).resetting = s.resetting := rfl
@[simp] theorem State.note_loader (k : NoteKind) (v : Nat) : (s.note k v).loader = s.loader := rfl
@[simp] theorem State.note_input (k : NoteKind) (v : Nat) : (s.note k v).input = s.input := rfl
@[simp] theorem State.note_seq (k : NoteKind) (v : Nat) : (s.note k v).seq = s.seq := rfl
@[simp] theorem State.note_check (k : NoteKind) (v : Nat) : (s.note k v).check = s.check := rfl
@[simp] theorem State.note_det (k : NoteKind) (v : Nat) : (s.note k v).det = s.det := rfl
@[simp] theorem State.note_valve (k : NoteKind) (v : Nat) : (s.note k v).valve = s.valve := rfl
@[simp] theorem State.note_line (k : NoteKind) (v : Nat) : (s.note k v).line = s.line := rfl
@[simp] theorem State.note_peers (k : NoteKind) (v : Nat) : (s.note k v).peers = s.peers := rfl
@[simp] theorem State.note_share (k : NoteKind) (v : Nat) : (s.note k v).share = s.share := rfl
@[simp] theorem State.note_trip (k : NoteKind) (v : Nat) : (s.note k v).trip = s.trip := rfl
@[simp] theorem State.note_pending (k : NoteKind) (v : Nat) : (s.note k v).pending = s.pending := rfl
@[simp] theorem State.note_cfg (k : NoteKind) (v : Nat) : (s.note k v).cfg = s.cfg := by
  simp [State.cfg]

theorem State.note_untouched (k : NoteKind) (v : Nat) : Untouched [.ticket] s (s.note k v) := by
  intro b hb
  cases b <;> simp_all [Block.same]

/-! ### `closeTicket` -/

@[simp] theorem State.closeTicket_resetting (r : EndReason) : (s.closeTicket r).resetting = s.resetting := rfl
@[simp] theorem State.closeTicket_loader (r : EndReason) : (s.closeTicket r).loader = s.loader := rfl
@[simp] theorem State.closeTicket_input (r : EndReason) : (s.closeTicket r).input = s.input := rfl
@[simp] theorem State.closeTicket_seq (r : EndReason) : (s.closeTicket r).seq = s.seq := rfl
@[simp] theorem State.closeTicket_check (r : EndReason) : (s.closeTicket r).check = s.check := rfl
@[simp] theorem State.closeTicket_det (r : EndReason) : (s.closeTicket r).det = s.det := rfl
@[simp] theorem State.closeTicket_valve (r : EndReason) : (s.closeTicket r).valve = s.valve := rfl
@[simp] theorem State.closeTicket_line (r : EndReason) : (s.closeTicket r).line = s.line := rfl
@[simp] theorem State.closeTicket_peers (r : EndReason) : (s.closeTicket r).peers = s.peers := rfl
@[simp] theorem State.closeTicket_share (r : EndReason) : (s.closeTicket r).share = s.share := rfl
@[simp] theorem State.closeTicket_trip (r : EndReason) : (s.closeTicket r).trip = s.trip := rfl
@[simp] theorem State.closeTicket_pending (r : EndReason) : (s.closeTicket r).pending = s.pending := rfl
@[simp] theorem State.closeTicket_cfg (r : EndReason) : (s.closeTicket r).cfg = s.cfg := by
  simp [State.cfg]

theorem State.closeTicket_untouched (r : EndReason) : Untouched [.ticket] s (s.closeTicket r) := by
  intro b hb
  cases b <;> simp_all [Block.same]

/-! ### `setTempCode` -/

@[simp] theorem State.setTempCode_resetting (c : Code) : (s.setTempCode c).resetting = s.resetting := rfl
@[simp] theorem State.setTempCode_loader (c : Code) : (s.setTempCode c).loader = s.loader := rfl
@[simp] theorem State.setTempCode_input (c : Code) : (s.setTempCode c).input = s.input := rfl
@[simp] theorem State.setTempCode_check (c : Code) : (s.setTempCode c).check = s.check := rfl
@[simp] theorem State.setTempCode_det (c : Code) : (s.setTempCode c).det = s.det := rfl
@[simp] theorem State.setTempCode_valve (c : Code) : (s.setTempCode c).valve = s.valve := rfl
@[simp] theorem State.setTempCode_line (c : Code) : (s.setTempCode c).line = s.line := rfl
@[simp] theorem State.setTempCode_peers (c : Code) : (s.setTempCode c).peers = s.peers := rfl
@[simp] theorem State.setTempCode_share (c : Code) : (s.setTempCode c).share = s.share := rfl
@[simp] theorem State.setTempCode_trip (c : Code) : (s.setTempCode c).trip = s.trip := rfl
@[simp] theorem State.setTempCode_ticket (c : Code) : (s.setTempCode c).ticket = s.ticket := rfl
@[simp] theorem State.setTempCode_pending (c : Code) : (s.setTempCode c).pending = s.pending := rfl
@[simp] theorem State.setTempCode_cfg (c : Code) : (s.setTempCode c).cfg = s.cfg := by
  simp [State.cfg]

theorem State.setTempCode_untouched (c : Code) : Untouched [.seq] s (s.setTempCode c) := by
  intro b hb
  cases b <;> simp_all [Block.same]

/-! ### `dropBaseline` -/

@[simp] theorem State.dropBaseline_resetting : (s.dropBaseline).resetting = s.resetting := rfl
@[simp] theorem State.dropBaseline_loader : (s.dropBaseline).loader = s.loader := rfl
@[simp] theorem State.dropBaseline_input : (s.dropBaseline).input = s.input := rfl
@[simp] theorem State.dropBaseline_seq : (s.dropBaseline).seq = s.seq := rfl
@[simp] theorem State.dropBaseline_valve : (s.dropBaseline).valve = s.valve := rfl
@[simp] theorem State.dropBaseline_line : (s.dropBaseline).line = s.line := rfl
@[simp] theorem State.dropBaseline_peers : (s.dropBaseline).peers = s.peers := rfl
@[simp] theorem State.dropBaseline_share : (s.dropBaseline).share = s.share := rfl
@[simp] theorem State.dropBaseline_trip : (s.dropBaseline).trip = s.trip := rfl
@[simp] theorem State.dropBaseline_ticket : (s.dropBaseline).ticket = s.ticket := rfl
@[simp] theorem State.dropBaseline_pending : (s.dropBaseline).pending = s.pending := rfl
@[simp] theorem State.dropBaseline_cfg : (s.dropBaseline).cfg = s.cfg := by
  simp [State.cfg]

theorem State.dropBaseline_untouched : Untouched [.check, .det] s (s.dropBaseline) := by
  intro b hb
  cases b <;> simp_all [Block.same]

/-! ### `dropCheck` -/

@[simp] theorem State.dropCheck_resetting : (s.dropCheck).resetting = s.resetting := rfl
@[simp] theorem State.dropCheck_loader : (s.dropCheck).loader = s.loader := rfl
@[simp] theorem State.dropCheck_input : (s.dropCheck).input = s.input := rfl
@[simp] theorem State.dropCheck_seq : (s.dropCheck).seq = s.seq := rfl
@[simp] theorem State.dropCheck_valve : (s.dropCheck).valve = s.valve := rfl
@[simp] theorem State.dropCheck_line : (s.dropCheck).line = s.line := rfl
@[simp] theorem State.dropCheck_peers : (s.dropCheck).peers = s.peers := rfl
@[simp] theorem State.dropCheck_share : (s.dropCheck).share = s.share := rfl
@[simp] theorem State.dropCheck_trip : (s.dropCheck).trip = s.trip := rfl
@[simp] theorem State.dropCheck_ticket : (s.dropCheck).ticket = s.ticket := rfl
@[simp] theorem State.dropCheck_pending : (s.dropCheck).pending = s.pending := rfl
@[simp] theorem State.dropCheck_cfg : (s.dropCheck).cfg = s.cfg := by
  simp [State.cfg]

theorem State.dropCheck_untouched : Untouched [.check, .det] s (s.dropCheck) := by
  intro b hb
  cases b <;> simp_all [Block.same]

/-! ### `promptTest` -/

@[simp] theorem State.promptTest_resetting : (s.promptTest).resetting = s.resetting := by
  unfold State.promptTest
  split <;> rfl
@[simp] theorem State.promptTest_loader : (s.promptTest).loader = s.loader := by
  unfold State.promptTest
  split <;> rfl
@[simp] theorem State.promptTest_input : (s.promptTest).input = s.input := by
  unfold State.promptTest
  split <;> rfl
@[simp] theorem State.promptTest_seq : (s.promptTest).seq = s.seq := by
  unfold State.promptTest
  split <;> rfl
@[simp] theorem State.promptTest_check : (s.promptTest).check = s.check := by
  unfold State.promptTest
  split <;> rfl
@[simp] theorem State.promptTest_det : (s.promptTest).det = s.det := by
  unfold State.promptTest
  split <;> rfl
@[simp] theorem State.promptTest_valve : (s.promptTest).valve = s.valve := by
  unfold State.promptTest
  split <;> rfl
@[simp] theorem State.promptTest_peers : (s.promptTest).peers = s.peers := by
  unfold State.promptTest
  split <;> rfl
@[simp] theorem State.promptTest_share : (s.promptTest).share = s.share := by
  unfold State.promptTest
  split <;> rfl
@[simp] theorem State.promptTest_trip : (s.promptTest).trip = s.trip := by
  unfold State.promptTest
  split <;> rfl
@[simp] theorem State.promptTest_ticket : (s.promptTest).ticket = s.ticket := by
  unfold State.promptTest
  split <;> rfl
@[simp] theorem State.promptTest_pending : (s.promptTest).pending = s.pending := by
  unfold State.promptTest
  split <;> rfl
@[simp] theorem State.promptTest_cfg : (s.promptTest).cfg = s.cfg := by
  simp [State.cfg]

theorem State.promptTest_untouched : Untouched [.line] s (s.promptTest) := by
  intro b hb
  cases b <;> simp_all [Block.same]

/-! ### `promptOnMove` -/

@[simp] theorem State.promptOnMove_resetting (b : Pools Nat) : (s.promptOnMove b).resetting = s.resetting := by
  unfold State.promptOnMove
  split <;> simp
@[simp] theorem State.promptOnMove_loader (b : Pools Nat) : (s.promptOnMove b).loader = s.loader := by
  unfold State.promptOnMove
  split <;> simp
@[simp] theorem State.promptOnMove_input (b : Pools Nat) : (s.promptOnMove b).input = s.input := by
  unfold State.promptOnMove
  split <;> simp
@[simp] theorem State.promptOnMove_seq (b : Pools Nat) : (s.promptOnMove b).seq = s.seq := by
  unfold State.promptOnMove
  split <;> simp
@[simp] theorem State.promptOnMove_check (b : Pools Nat) : (s.promptOnMove b).check = s.check := by
  unfold State.promptOnMove
  split <;> simp
@[simp] theorem State.promptOnMove_det (b : Pools Nat) : (s.promptOnMove b).det = s.det := by
  unfold State.promptOnMove
  split <;> simp
@[simp] theorem State.promptOnMove_valve (b : Pools Nat) : (s.promptOnMove b).valve = s.valve := by
  unfold State.promptOnMove
  split <;> simp
@[simp] theorem State.promptOnMove_peers (b : Pools Nat) : (s.promptOnMove b).peers = s.peers := by
  unfold State.promptOnMove
  split <;> simp
@[simp] theorem State.promptOnMove_share (b : Pools Nat) : (s.promptOnMove b).share = s.share := by
  unfold State.promptOnMove
  split <;> simp
@[simp] theorem State.promptOnMove_trip (b : Pools Nat) : (s.promptOnMove b).trip = s.trip := by
  unfold State.promptOnMove
  split <;> simp
@[simp] theorem State.promptOnMove_ticket (b : Pools Nat) : (s.promptOnMove b).ticket = s.ticket := by
  unfold State.promptOnMove
  split <;> simp
@[simp] theorem State.promptOnMove_pending (b : Pools Nat) : (s.promptOnMove b).pending = s.pending := by
  unfold State.promptOnMove
  split <;> simp
@[simp] theorem State.promptOnMove_cfg (b : Pools Nat) : (s.promptOnMove b).cfg = s.cfg := by
  simp [State.cfg]

theorem State.promptOnMove_untouched (b : Pools Nat) : Untouched [.line] s (s.promptOnMove b) := by
  intro b hb
  cases b <;> simp_all [Block.same]

/-! ### `applyCommands` -/

@[simp] theorem State.applyCommands_resetting : (s.applyCommands).resetting = s.resetting := rfl
@[simp] theorem State.applyCommands_loader : (s.applyCommands).loader = s.loader := rfl
@[simp] theorem State.applyCommands_input : (s.applyCommands).input = s.input := rfl
@[simp] theorem State.applyCommands_seq : (s.applyCommands).seq = s.seq := rfl
@[simp] theorem State.applyCommands_check : (s.applyCommands).check = s.check := rfl
@[simp] theorem State.applyCommands_det : (s.applyCommands).det = s.det := rfl
@[simp] theorem State.applyCommands_line : (s.applyCommands).line = s.line := rfl
@[simp] theorem State.applyCommands_peers : (s.applyCommands).peers = s.peers := rfl
@[simp] theorem State.applyCommands_share : (s.applyCommands).share = s.share := rfl
@[simp] theorem State.applyCommands_trip : (s.applyCommands).trip = s.trip := rfl
@[simp] theorem State.applyCommands_ticket : (s.applyCommands).ticket = s.ticket := rfl
@[simp] theorem State.applyCommands_pending : (s.applyCommands).pending = s.pending := rfl
@[simp] theorem State.applyCommands_cfg : (s.applyCommands).cfg = s.cfg := by
  simp [State.cfg]

theorem State.applyCommands_untouched : Untouched [.valve] s (s.applyCommands) := by
  intro b hb
  cases b <;> simp_all [Block.same]

/-! ### `enterPhase` -/

@[simp] theorem State.enterPhase_resetting (p : Phase) : (s.enterPhase p).resetting = s.resetting := by
  simp [State.enterPhase]
@[simp] theorem State.enterPhase_loader (p : Phase) : (s.enterPhase p).loader = s.loader := by
  simp [State.enterPhase]
@[simp] theorem State.enterPhase_input (p : Phase) : (s.enterPhase p).input = s.input := by
  simp [State.enterPhase]
@[simp] theorem State.enterPhase_check (p : Phase) : (s.enterPhase p).check = s.check := by
  simp [State.enterPhase]
@[simp] theorem State.enterPhase_peers (p : Phase) : (s.enterPhase p).peers = s.peers := by
  simp [State.enterPhase]
@[simp] theorem State.enterPhase_trip (p : Phase) : (s.enterPhase p).trip = s.trip := by
  simp [State.enterPhase]
@[simp] theorem State.enterPhase_pending (p : Phase) : (s.enterPhase p).pending = s.pending := by
  simp [State.enterPhase]
@[simp] theorem State.enterPhase_cfg (p : Phase) : (s.enterPhase p).cfg = s.cfg := by
  simp [State.cfg]

theorem State.enterPhase_untouched (p : Phase) : Untouched [.seq, .det, .valve, .line, .share, .ticket] s (s.enterPhase p) := by
  intro b hb
  cases b <;> simp_all [Block.same]

/-! ### `enterIdle` -/

@[simp] theorem State.enterIdle_resetting : (s.enterIdle).resetting = s.resetting := by
  simp [State.enterIdle]
@[simp] theorem State.enterIdle_loader : (s.enterIdle).loader = s.loader := by
  simp [State.enterIdle]
@[simp] theorem State.enterIdle_check : (s.enterIdle).check = s.check := by
  simp [State.enterIdle]
@[simp] theorem State.enterIdle_peers : (s.enterIdle).peers = s.peers := by
  simp [State.enterIdle]
@[simp] theorem State.enterIdle_trip : (s.enterIdle).trip = s.trip := by
  simp [State.enterIdle]
@[simp] theorem State.enterIdle_pending : (s.enterIdle).pending = s.pending := by
  simp [State.enterIdle]
@[simp] theorem State.enterIdle_cfg : (s.enterIdle).cfg = s.cfg := by
  simp [State.cfg]

theorem State.enterIdle_untouched : Untouched [.input, .seq, .det, .valve, .line, .share, .ticket] s (s.enterIdle) := by
  intro b hb
  cases b <;> simp_all [Block.same]

/-! ### `enterHold` -/

@[simp] theorem State.enterHold_resetting (h : Option HeldPhase) (r : HoldReason) : (s.enterHold h r).resetting = s.resetting := by
  simp [State.enterHold]
@[simp] theorem State.enterHold_loader (h : Option HeldPhase) (r : HoldReason) : (s.enterHold h r).loader = s.loader := by
  simp [State.enterHold]
@[simp] theorem State.enterHold_input (h : Option HeldPhase) (r : HoldReason) : (s.enterHold h r).input = s.input := by
  simp [State.enterHold]
@[simp] theorem State.enterHold_check (h : Option HeldPhase) (r : HoldReason) : (s.enterHold h r).check = s.check := by
  simp [State.enterHold]
@[simp] theorem State.enterHold_peers (h : Option HeldPhase) (r : HoldReason) : (s.enterHold h r).peers = s.peers := by
  simp [State.enterHold]
@[simp] theorem State.enterHold_trip (h : Option HeldPhase) (r : HoldReason) : (s.enterHold h r).trip = s.trip := by
  simp [State.enterHold]
@[simp] theorem State.enterHold_pending (h : Option HeldPhase) (r : HoldReason) : (s.enterHold h r).pending = s.pending := by
  simp [State.enterHold]
@[simp] theorem State.enterHold_cfg (h : Option HeldPhase) (r : HoldReason) : (s.enterHold h r).cfg = s.cfg := by
  simp [State.cfg]

theorem State.enterHold_untouched (h : Option HeldPhase) (r : HoldReason) : Untouched [.seq, .det, .valve, .line, .share, .ticket] s (s.enterHold h r) := by
  intro b hb
  cases b <;> simp_all [Block.same]

/-! ### `enterDrain` -/

@[simp] theorem State.enterDrain_resetting : (s.enterDrain).resetting = s.resetting := by
  simp [State.enterDrain]
@[simp] theorem State.enterDrain_loader : (s.enterDrain).loader = s.loader := by
  simp [State.enterDrain]
@[simp] theorem State.enterDrain_input : (s.enterDrain).input = s.input := by
  simp [State.enterDrain]
@[simp] theorem State.enterDrain_check : (s.enterDrain).check = s.check := by
  simp [State.enterDrain]
@[simp] theorem State.enterDrain_peers : (s.enterDrain).peers = s.peers := by
  simp [State.enterDrain]
@[simp] theorem State.enterDrain_trip : (s.enterDrain).trip = s.trip := by
  simp [State.enterDrain]
@[simp] theorem State.enterDrain_pending : (s.enterDrain).pending = s.pending := by
  simp [State.enterDrain]
@[simp] theorem State.enterDrain_cfg : (s.enterDrain).cfg = s.cfg := by
  simp [State.cfg]

theorem State.enterDrain_untouched : Untouched [.seq, .det, .valve, .line, .share, .ticket] s (s.enterDrain) := by
  intro b hb
  cases b <;> simp_all [Block.same]

/-! ### `enterRecover` -/

@[simp] theorem State.enterRecover_resetting : (s.enterRecover).resetting = s.resetting := by
  simp [State.enterRecover]
@[simp] theorem State.enterRecover_loader : (s.enterRecover).loader = s.loader := by
  simp [State.enterRecover]
@[simp] theorem State.enterRecover_input : (s.enterRecover).input = s.input := by
  simp [State.enterRecover]
@[simp] theorem State.enterRecover_check : (s.enterRecover).check = s.check := by
  simp [State.enterRecover]
@[simp] theorem State.enterRecover_peers : (s.enterRecover).peers = s.peers := by
  simp [State.enterRecover]
@[simp] theorem State.enterRecover_trip : (s.enterRecover).trip = s.trip := by
  simp [State.enterRecover]
@[simp] theorem State.enterRecover_pending : (s.enterRecover).pending = s.pending := by
  simp [State.enterRecover]
@[simp] theorem State.enterRecover_cfg : (s.enterRecover).cfg = s.cfg := by
  simp [State.cfg]

theorem State.enterRecover_untouched : Untouched [.seq, .det, .valve, .line, .share, .ticket] s (s.enterRecover) := by
  intro b hb
  cases b <;> simp_all [Block.same]

/-! ### `endShutting` -/

@[simp] theorem State.endShutting_resetting : (s.endShutting).resetting = s.resetting := by
  unfold State.endShutting
  split <;> simp
@[simp] theorem State.endShutting_loader : (s.endShutting).loader = s.loader := by
  unfold State.endShutting
  split <;> simp
@[simp] theorem State.endShutting_input : (s.endShutting).input = s.input := by
  unfold State.endShutting
  split <;> simp
@[simp] theorem State.endShutting_check : (s.endShutting).check = s.check := by
  unfold State.endShutting
  split <;> simp
@[simp] theorem State.endShutting_det : (s.endShutting).det = s.det := by
  unfold State.endShutting
  split <;> simp
@[simp] theorem State.endShutting_line : (s.endShutting).line = s.line := by
  unfold State.endShutting
  split <;> simp
@[simp] theorem State.endShutting_peers : (s.endShutting).peers = s.peers := by
  unfold State.endShutting
  split <;> simp
@[simp] theorem State.endShutting_share : (s.endShutting).share = s.share := by
  unfold State.endShutting
  split <;> simp
@[simp] theorem State.endShutting_trip : (s.endShutting).trip = s.trip := by
  unfold State.endShutting
  split <;> simp
@[simp] theorem State.endShutting_ticket : (s.endShutting).ticket = s.ticket := by
  unfold State.endShutting
  split <;> simp
@[simp] theorem State.endShutting_pending : (s.endShutting).pending = s.pending := by
  unfold State.endShutting
  split <;> simp
@[simp] theorem State.endShutting_cfg : (s.endShutting).cfg = s.cfg := by
  simp [State.cfg]

theorem State.endShutting_untouched : Untouched [.seq, .valve] s (s.endShutting) := by
  intro b hb
  cases b <;> simp_all [Block.same]

/-! ### `enterClose` -/

@[simp] theorem State.enterClose_resetting : (s.enterClose).resetting = s.resetting := by
  simp [State.enterClose]
@[simp] theorem State.enterClose_loader : (s.enterClose).loader = s.loader := by
  simp [State.enterClose]
@[simp] theorem State.enterClose_input : (s.enterClose).input = s.input := by
  simp [State.enterClose]
@[simp] theorem State.enterClose_check : (s.enterClose).check = s.check := by
  simp [State.enterClose]
@[simp] theorem State.enterClose_peers : (s.enterClose).peers = s.peers := by
  simp [State.enterClose]
@[simp] theorem State.enterClose_trip : (s.enterClose).trip = s.trip := by
  simp [State.enterClose]
@[simp] theorem State.enterClose_pending : (s.enterClose).pending = s.pending := by
  simp [State.enterClose]
@[simp] theorem State.enterClose_cfg : (s.enterClose).cfg = s.cfg := by
  simp [State.cfg]

theorem State.enterClose_untouched : Untouched [.seq, .det, .valve, .line, .share, .ticket] s (s.enterClose) := by
  intro b hb
  cases b <;> simp_all [Block.same]

/-! ### `endDrain` -/

@[simp] theorem State.endDrain_resetting : (s.endDrain).resetting = s.resetting := by
  unfold State.endDrain
  split <;> simp
@[simp] theorem State.endDrain_loader : (s.endDrain).loader = s.loader := by
  unfold State.endDrain
  split <;> simp
@[simp] theorem State.endDrain_input : (s.endDrain).input = s.input := by
  unfold State.endDrain
  split <;> simp
@[simp] theorem State.endDrain_check : (s.endDrain).check = s.check := by
  unfold State.endDrain
  split <;> simp
@[simp] theorem State.endDrain_peers : (s.endDrain).peers = s.peers := by
  unfold State.endDrain
  split <;> simp
@[simp] theorem State.endDrain_trip : (s.endDrain).trip = s.trip := by
  unfold State.endDrain
  split <;> simp
@[simp] theorem State.endDrain_pending : (s.endDrain).pending = s.pending := by
  unfold State.endDrain
  split <;> simp
@[simp] theorem State.endDrain_cfg : (s.endDrain).cfg = s.cfg := by
  simp [State.cfg]

theorem State.endDrain_untouched : Untouched [.seq, .det, .valve, .line, .share, .ticket] s (s.endDrain) := by
  intro b hb
  cases b <;> simp_all [Block.same]

/-! ### `endReleasing` -/

@[simp] theorem State.endReleasing_resetting : (s.endReleasing).resetting = s.resetting := by
  unfold State.endReleasing
  split <;> simp
@[simp] theorem State.endReleasing_loader : (s.endReleasing).loader = s.loader := by
  unfold State.endReleasing
  split <;> simp
@[simp] theorem State.endReleasing_peers : (s.endReleasing).peers = s.peers := by
  unfold State.endReleasing
  split <;> simp
@[simp] theorem State.endReleasing_trip : (s.endReleasing).trip = s.trip := by
  unfold State.endReleasing
  split <;> simp
@[simp] theorem State.endReleasing_pending : (s.endReleasing).pending = s.pending := by
  unfold State.endReleasing
  split <;> simp
@[simp] theorem State.endReleasing_cfg : (s.endReleasing).cfg = s.cfg := by
  simp [State.cfg]

theorem State.endReleasing_untouched : Untouched [.input, .seq, .check, .det, .valve, .line, .share, .ticket] s (s.endReleasing) := by
  intro b hb
  cases b <;> simp_all [Block.same]

/-! ### `closeUncoupled` -/

@[simp] theorem State.closeUncoupled_resetting : (s.closeUncoupled).resetting = s.resetting := by
  unfold State.closeUncoupled
  split <;> simp
@[simp] theorem State.closeUncoupled_loader : (s.closeUncoupled).loader = s.loader := by
  unfold State.closeUncoupled
  split <;> simp
@[simp] theorem State.closeUncoupled_input : (s.closeUncoupled).input = s.input := by
  unfold State.closeUncoupled
  split <;> simp
@[simp] theorem State.closeUncoupled_valve : (s.closeUncoupled).valve = s.valve := by
  unfold State.closeUncoupled
  split <;> simp
@[simp] theorem State.closeUncoupled_line : (s.closeUncoupled).line = s.line := by
  unfold State.closeUncoupled
  split <;> simp
@[simp] theorem State.closeUncoupled_peers : (s.closeUncoupled).peers = s.peers := by
  unfold State.closeUncoupled
  split <;> simp
@[simp] theorem State.closeUncoupled_share : (s.closeUncoupled).share = s.share := by
  unfold State.closeUncoupled
  split <;> simp
@[simp] theorem State.closeUncoupled_trip : (s.closeUncoupled).trip = s.trip := by
  unfold State.closeUncoupled
  split <;> simp
@[simp] theorem State.closeUncoupled_pending : (s.closeUncoupled).pending = s.pending := by
  unfold State.closeUncoupled
  split <;> simp
@[simp] theorem State.closeUncoupled_cfg : (s.closeUncoupled).cfg = s.cfg := by
  simp [State.cfg]

theorem State.closeUncoupled_untouched : Untouched [.seq, .check, .det, .ticket] s (s.closeUncoupled) := by
  intro b hb
  cases b <;> simp_all [Block.same]

/-! ### `abandonCheck` -/

@[simp] theorem State.abandonCheck_resetting : (s.abandonCheck).resetting = s.resetting := by
  unfold State.abandonCheck
  split <;> simp
@[simp] theorem State.abandonCheck_loader : (s.abandonCheck).loader = s.loader := by
  unfold State.abandonCheck
  split <;> simp
@[simp] theorem State.abandonCheck_input : (s.abandonCheck).input = s.input := by
  unfold State.abandonCheck
  split <;> simp
@[simp] theorem State.abandonCheck_seq : (s.abandonCheck).seq = s.seq := by
  unfold State.abandonCheck
  split <;> simp
@[simp] theorem State.abandonCheck_valve : (s.abandonCheck).valve = s.valve := by
  unfold State.abandonCheck
  split <;> simp
@[simp] theorem State.abandonCheck_line : (s.abandonCheck).line = s.line := by
  unfold State.abandonCheck
  split <;> simp
@[simp] theorem State.abandonCheck_peers : (s.abandonCheck).peers = s.peers := by
  unfold State.abandonCheck
  split <;> simp
@[simp] theorem State.abandonCheck_share : (s.abandonCheck).share = s.share := by
  unfold State.abandonCheck
  split <;> simp
@[simp] theorem State.abandonCheck_trip : (s.abandonCheck).trip = s.trip := by
  unfold State.abandonCheck
  split <;> simp
@[simp] theorem State.abandonCheck_ticket : (s.abandonCheck).ticket = s.ticket := by
  unfold State.abandonCheck
  split <;> simp
@[simp] theorem State.abandonCheck_pending : (s.abandonCheck).pending = s.pending := by
  unfold State.abandonCheck
  split <;> simp
@[simp] theorem State.abandonCheck_cfg : (s.abandonCheck).cfg = s.cfg := by
  simp [State.cfg]

theorem State.abandonCheck_untouched : Untouched [.check, .det] s (s.abandonCheck) := by
  intro b hb
  cases b <;> simp_all [Block.same]

/-! ### `enterTripped` -/

@[simp] theorem State.enterTripped_resetting (c : Cause) (o : Nat) : (s.enterTripped c o).resetting = s.resetting := by
  simp [State.enterTripped]
@[simp] theorem State.enterTripped_loader (c : Cause) (o : Nat) : (s.enterTripped c o).loader = s.loader := by
  simp [State.enterTripped]
@[simp] theorem State.enterTripped_input (c : Cause) (o : Nat) : (s.enterTripped c o).input = s.input := by
  simp [State.enterTripped]
@[simp] theorem State.enterTripped_peers (c : Cause) (o : Nat) : (s.enterTripped c o).peers = s.peers := by
  simp [State.enterTripped]
@[simp] theorem State.enterTripped_trip (c : Cause) (o : Nat) : (s.enterTripped c o).trip = s.trip := by
  simp [State.enterTripped]
@[simp] theorem State.enterTripped_pending (c : Cause) (o : Nat) : (s.enterTripped c o).pending = s.pending := by
  simp [State.enterTripped]
@[simp] theorem State.enterTripped_cfg (c : Cause) (o : Nat) : (s.enterTripped c o).cfg = s.cfg := by
  simp [State.cfg]

theorem State.enterTripped_untouched (c : Cause) (o : Nat) : Untouched [.seq, .check, .det, .valve, .line, .share, .ticket] s (s.enterTripped c o) := by
  intro b hb
  cases b <;> simp_all [Block.same]

/-! ### `tripEntry` -/

@[simp] theorem State.tripEntry_resetting (c : Cause) (o : Nat) : (s.tripEntry c o).resetting = s.resetting := by
  unfold State.tripEntry
  split <;> simp
@[simp] theorem State.tripEntry_loader (c : Cause) (o : Nat) : (s.tripEntry c o).loader = s.loader := by
  unfold State.tripEntry
  split <;> simp
@[simp] theorem State.tripEntry_input (c : Cause) (o : Nat) : (s.tripEntry c o).input = s.input := by
  unfold State.tripEntry
  split <;> simp
@[simp] theorem State.tripEntry_peers (c : Cause) (o : Nat) : (s.tripEntry c o).peers = s.peers := by
  unfold State.tripEntry
  split <;> simp
@[simp] theorem State.tripEntry_trip (c : Cause) (o : Nat) : (s.tripEntry c o).trip = s.trip := by
  unfold State.tripEntry
  split <;> simp
@[simp] theorem State.tripEntry_pending (c : Cause) (o : Nat) : (s.tripEntry c o).pending = s.pending := by
  unfold State.tripEntry
  split <;> simp
@[simp] theorem State.tripEntry_cfg (c : Cause) (o : Nat) : (s.tripEntry c o).cfg = s.cfg := by
  simp [State.cfg]

theorem State.tripEntry_untouched (c : Cause) (o : Nat) : Untouched [.seq, .check, .det, .valve, .line, .share, .ticket] s (s.tripEntry c o) := by
  intro b hb
  cases b <;> simp_all [Block.same]

/-! ### `latch` -/

@[simp] theorem State.latch_resetting (c : Cause) : (s.latch c).resetting = s.resetting := by
  unfold State.latch
  split <;> simp
@[simp] theorem State.latch_loader (c : Cause) : (s.latch c).loader = s.loader := by
  unfold State.latch
  split <;> simp
@[simp] theorem State.latch_input (c : Cause) : (s.latch c).input = s.input := by
  unfold State.latch
  split <;> simp
@[simp] theorem State.latch_peers (c : Cause) : (s.latch c).peers = s.peers := by
  unfold State.latch
  split <;> simp
@[simp] theorem State.latch_pending (c : Cause) : (s.latch c).pending = s.pending := by
  unfold State.latch
  split <;> simp
@[simp] theorem State.latch_cfg (c : Cause) : (s.latch c).cfg = s.cfg := by
  simp [State.cfg]

theorem State.latch_untouched (c : Cause) : Untouched [.seq, .check, .det, .valve, .line, .share, .trip, .ticket] s (s.latch c) := by
  intro b hb
  cases b <;> simp_all [Block.same]

/-! ### `addRemote` -/

@[simp] theorem State.addRemote_resetting (o : Nat) (cs : EntryCauses) : (s.addRemote o cs).resetting = s.resetting := by
  unfold State.addRemote
  split <;> simp
@[simp] theorem State.addRemote_loader (o : Nat) (cs : EntryCauses) : (s.addRemote o cs).loader = s.loader := by
  unfold State.addRemote
  split <;> simp
@[simp] theorem State.addRemote_input (o : Nat) (cs : EntryCauses) : (s.addRemote o cs).input = s.input := by
  unfold State.addRemote
  split <;> simp
@[simp] theorem State.addRemote_peers (o : Nat) (cs : EntryCauses) : (s.addRemote o cs).peers = s.peers := by
  unfold State.addRemote
  split <;> simp
@[simp] theorem State.addRemote_pending (o : Nat) (cs : EntryCauses) : (s.addRemote o cs).pending = s.pending := by
  unfold State.addRemote
  split <;> simp
@[simp] theorem State.addRemote_cfg (o : Nat) (cs : EntryCauses) : (s.addRemote o cs).cfg = s.cfg := by
  simp [State.cfg]

theorem State.addRemote_untouched (o : Nat) (cs : EntryCauses) : Untouched [.seq, .check, .det, .valve, .line, .share, .trip, .ticket] s (s.addRemote o cs) := by
  intro b hb
  cases b <;> simp_all [Block.same]

/-! ## Blocks that an operation writes -/

/-! ### Tickets and codes -/

/-- R173: a note leaves everything of the ticket unit but the open ticket, which becomes `noted`. -/
@[simp] theorem State.note_ticket (k : NoteKind) (v : Nat) :
    (s.note k v).ticket = { s.ticket with current := noted k v s.ticket } := rfl

@[simp] theorem State.note_ticketOpen (k : NoteKind) (v : Nat) : (s.note k v).ticketOpen = s.ticketOpen := by
  simp [State.ticketOpen, noted]

/-- R174: with no ticket open a closing changes nothing. -/
theorem State.closeTicket_none (r : EndReason) (h : s.ticket.current = none) : (s.closeTicket r).ticket = s.ticket := by
  simp [State.closeTicket, TicketUnit.closeTicket, h]

/-- R174: the open ticket becomes the last of the store, with its close time, final throttle level and end reason. -/
theorem State.closeTicket_some (r : EndReason) (k : Ticket) (h : s.ticket.current = some k) :
    (s.closeTicket r).ticket = { s.ticket with
      current := none
      store := s.ticket.store ++
        [{ k with closeTime := some s.ticket.uptime, finalThrottle := some s.det.throttle, endReason := some r }] } := by
  simp [State.closeTicket, TicketUnit.closeTicket, h]

@[simp] theorem State.setTempCode_seq (c : Code) :
    (s.setTempCode c).seq = { s.seq with tempCode := some c, tempTimer := some 0 } := rfl

@[simp] theorem State.dropBaseline_check : s.dropBaseline.check = { s.check with baseline := none } := rfl

@[simp] theorem State.dropBaseline_det : s.dropBaseline.det = { s.det with driftCount := 0 } := rfl

@[simp] theorem State.dropCheck_check : s.dropCheck.check = .reset := rfl

@[simp] theorem State.dropCheck_det : s.dropCheck.det = { s.det with driftCount := 0 } := rfl

/-! ### The outgoing list -/

theorem LineController.mem_add (f g : OutFrame) (l : LineController) :
    g ∈ (l.add f).outgoing ↔ g ∈ l.outgoing ∨ g = f := by
  unfold LineController.add
  split
  · simp_all
  · by_cases h : g.kind ≤ f.kind <;> simp [insertFrame, h] <;> grind

theorem LineController.mem_remove (f g : OutFrame) (l : LineController) :
    g ∈ (l.remove f).outgoing ↔ g ∈ l.outgoing ∧ g ≠ f := by
  simp [LineController.remove]

/-- R113, R110: the prompt test leaves the line controller, queues an ANNOUNCE, or sets the prompt request. -/
theorem State.promptTest_line :
    s.promptTest.line = s.line ∨ s.promptTest.line = s.line.add .announce ∨
      s.promptTest.line = { s.line with promptRequest := true } := by
  unfold State.promptTest
  split
  · rename_i h
    simp only [State.onLine_line]
    unfold LineController.prompt
    split
    · exact .inl rfl
    · split
      · unfold LineController.queueAnnounce
        simp_all
      · exact .inr (.inr rfl)
  · exact .inl rfl

/-! ### Valve commands and phase changes -/

@[simp] theorem State.applyCommands_valve : s.applyCommands.valve = s.valve.obey s.wanted := rfl

@[simp] theorem ValveDriver.obey_lvCommand (w : Wanted) (v : ValveDriver) : (v.obey w).lvCommand = w.lv := by
  unfold ValveDriver.obey ValveDriver.setOpenings ValveDriver.commandLv
  split
  · assumption
  · split <;> simp_all

@[simp] theorem ValveDriver.obey_bvCommand (w : Wanted) (v : ValveDriver) : (v.obey w).bvCommand = w.bv := rfl

@[simp] theorem ValveDriver.obey_svTarget (w : Wanted) (v : ValveDriver) : (v.obey w).svTarget = w.sv := rfl

@[simp] theorem ValveDriver.obey_rvTarget (w : Wanted) (v : ValveDriver) : (v.obey w).rvTarget = w.rv := rfl

@[simp] theorem ValveDriver.commandLv_openings (d : Drive) (v : ValveDriver) :
    (v.commandLv d).svOpening = v.svOpening ∧ (v.commandLv d).rvOpening = v.rvOpening ∧ (v.commandLv d).trim = v.trim ∧
      (v.commandLv d).sv = v.sv ∧ (v.commandLv d).rv = v.rv ∧ (v.commandLv d).lvCommand = d := by
  unfold ValveDriver.commandLv
  split
  · simp_all
  · split <;> simp

@[simp] theorem ValveDriver.obey_svOpening (w : Wanted) (v : ValveDriver) :
    (v.obey w).svOpening = min v.svOpening w.sv := rfl

@[simp] theorem ValveDriver.obey_rvOpening (w : Wanted) (v : ValveDriver) :
    (v.obey w).rvOpening = min v.rvOpening w.rv := rfl

@[simp] theorem ValveDriver.obey_trim (w : Wanted) (v : ValveDriver) : (v.obey w).trim = v.trim :=
  (v.commandLv_openings w.lv).2.2.1

@[simp] theorem ValveDriver.obey_lv (w : Wanted) (v : ValveDriver) : (v.obey w).lv = (v.commandLv w.lv).lv := rfl

@[simp] theorem ValveDriver.obey_sv (w : Wanted) (v : ValveDriver) :
    (v.obey w).sv = moveChannel v.svOpening (min v.svOpening w.sv) v.sv := by
  simp [ValveDriver.obey, ValveDriver.setOpenings]

@[simp] theorem ValveDriver.obey_rv (w : Wanted) (v : ValveDriver) :
    (v.obey w).rv = moveChannel v.rvOpening (min v.rvOpening w.rv) v.rv := by
  simp [ValveDriver.obey, ValveDriver.setOpenings]

/-- R81, R85, R86: what a phase asks of the valves where the SV and RV targets are 0. -/
theorem State.wanted_elsewhere (h : s.seq.phase ≠ .push) (h' : s.seq.phase ≠ .recover) :
    s.wanted = ⟨lvWanted s.seq.phase s.seq.drainStep, bvWanted s.seq.phase s.seq.closeStep, 0, 0⟩ := by
  simp [State.wanted, State.svWanted, State.rvWanted, h, h']

@[simp] theorem State.wanted_lv : s.wanted.lv = lvWanted s.seq.phase s.seq.drainStep := rfl

@[simp] theorem State.wanted_bv : s.wanted.bv = bvWanted s.seq.phase s.seq.closeStep := rfl

theorem State.svWanted_zero (h : s.seq.phase ≠ .push) : s.svWanted = 0 := by simp [State.svWanted, h]

theorem State.rvWanted_zero (h : s.seq.phase ≠ .recover) : s.rvWanted = 0 := by simp [State.rvWanted, h]

theorem State.svWanted_le : s.svWanted ≤ 1000 := by
  unfold State.svWanted baseOpening
  split
  · split <;> omega
  · omega

theorem State.rvWanted_le : s.rvWanted ≤ 1000 := by
  unfold State.rvWanted baseOpening
  split <;> omega

@[simp] theorem State.enterPhase_seq (p : Phase) :
    (s.enterPhase p).seq = { s.seq with phase := p, tempCode := none, tempTimer := none } := by
  simp [State.enterPhase]

@[simp] theorem State.enterPhase_ticket (p : Phase) :
    (s.enterPhase p).ticket = { s.ticket with meterMarker := false } := by
  simp [State.enterPhase]

@[simp] theorem State.enterPhase_ticketOpen (p : Phase) : (s.enterPhase p).ticketOpen = s.ticketOpen := by
  simp [State.ticketOpen]

@[simp] theorem State.enterPhase_det (p : Phase) : (s.enterPhase p).det = s.det.change s.seq.phase p := by
  simp [State.enterPhase]

@[simp] theorem State.enterPhase_share (p : Phase) : (s.enterPhase p).share = s.share.change s.seq.phase p := by
  simp [State.enterPhase]

/-- R82, R93: the valves at a phase change obey the new phase, with the steps and the grants that stand in it. -/
theorem State.enterPhase_valve (p : Phase) : ∃ sv rv, (s.enterPhase p).valve = s.valve.obey
      ⟨lvWanted p s.seq.drainStep, bvWanted p s.seq.closeStep, sv, rv⟩ ∧
    sv ≤ 1000 ∧ rv ≤ 1000 ∧ (p ≠ .push → sv = 0) ∧ (p ≠ .recover → rv = 0) := by
  refine ⟨(((((s.onSeq (fun q => { q with phase := p, tempCode := none, tempTimer := none })).onTicket
      (fun t => { t with meterMarker := false })).onDet (DetectorUnit.change s.seq.phase p)).onShare
      (ShareUnit.change s.seq.phase p))).svWanted,
    (((((s.onSeq (fun q => { q with phase := p, tempCode := none, tempTimer := none })).onTicket
      (fun t => { t with meterMarker := false })).onDet (DetectorUnit.change s.seq.phase p)).onShare
      (ShareUnit.change s.seq.phase p))).rvWanted, ?_, State.svWanted_le _, State.rvWanted_le _, ?_, ?_⟩
  · simp only [State.enterPhase, State.promptTest_valve, State.applyCommands_valve, State.wanted]
    rfl
  · intro h
    exact State.svWanted_zero _ (by simpa using h)
  · intro h
    exact State.rvWanted_zero _ (by simpa using h)

/-- R41, R113: the line controller at a phase change. -/
theorem State.enterPhase_line (p : Phase) :
    (s.enterPhase p).line = s.line ∨ (s.enterPhase p).line = s.line.add .announce ∨
      (s.enterPhase p).line = { s.line with promptRequest := true } := by
  simpa [State.enterPhase] using State.promptTest_line ((((((s.onSeq (fun q =>
    { q with phase := p, tempCode := none, tempTimer := none })).onTicket
      (fun t => { t with meterMarker := false })).onDet (DetectorUnit.change s.seq.phase p)).onShare
      (ShareUnit.change s.seq.phase p)).applyCommands))

@[simp] theorem ShareUnit.change_grant (b a : Phase) (u : ShareUnit) (p : Pool) :
    (u.change b a).grant.get p = if a.draws p then u.grant.get p else 0 := by
  cases p <;> rfl

@[simp] theorem ShareUnit.change_share (b a : Phase) (u : ShareUnit) : (u.change b a).share = u.share := rfl

@[simp] theorem ShareUnit.change_rings (b a : Phase) (u : ShareUnit) : (u.change b a).rings = u.rings := rfl

@[simp] theorem ShareUnit.change_island (b a : Phase) (u : ShareUnit) : (u.change b a).island = u.island := rfl

@[simp] theorem ShareUnit.change_faultMarker (b a : Phase) (u : ShareUnit) :
    (u.change b a).faultMarker = u.faultMarker := rfl

@[simp] theorem DetectorUnit.change_throttle (b a : Phase) (d : DetectorUnit) : (d.change b a).throttle = d.throttle := by
  simp only [DetectorUnit.change]
  split <;> split <;> rfl

@[simp] theorem DetectorUnit.change_clearTimer (b a : Phase) (d : DetectorUnit) :
    (d.change b a).clearTimer = d.clearTimer := by
  simp only [DetectorUnit.change]
  split <;> split <;> rfl

@[simp] theorem DetectorUnit.change_driftCount (b a : Phase) (d : DetectorUnit) :
    (d.change b a).driftCount = d.driftCount := by
  simp only [DetectorUnit.change]
  split <;> split <;> rfl

/-! ### Entries into the phases -/

@[simp] theorem State.enterIdle_seq : s.enterIdle.seq =
    ⟨.idle, none, none, false, .draining, none, 0, none, .shutting, none, none, none⟩ := by
  simp [State.enterIdle]

@[simp] theorem State.enterIdle_input : s.enterIdle.input = { s.input with identity := [] } := by
  simp [State.enterIdle]

@[simp] theorem State.enterIdle_ticket : s.enterIdle.ticket = { s.ticket with meterMarker := false } := by
  simp [State.enterIdle]

@[simp] theorem State.enterIdle_det : s.enterIdle.det = s.det.change s.seq.phase .idle := by
  simp [State.enterIdle]

@[simp] theorem State.enterIdle_share : s.enterIdle.share = s.share.change s.seq.phase .idle := by
  simp [State.enterIdle]

@[simp] theorem State.enterHold_seq (h : Option HeldPhase) (r : HoldReason) : (s.enterHold h r).seq = { s.seq with
    phase := .hold, held := h, reason := some r, residual := 0, recoveryTimer := none, tempCode := none,
    tempTimer := none } := by
  simp [State.enterHold]

@[simp] theorem State.enterHold_ticket (h : Option HeldPhase) (r : HoldReason) : (s.enterHold h r).ticket =
    { s.ticket with current := noted .hold r.code s.ticket, meterMarker := false } := by
  simp [State.enterHold]

@[simp] theorem State.enterHold_det (h : Option HeldPhase) (r : HoldReason) :
    (s.enterHold h r).det = s.det.change s.seq.phase .hold := by
  simp [State.enterHold]

@[simp] theorem State.enterHold_share (h : Option HeldPhase) (r : HoldReason) :
    (s.enterHold h r).share = s.share.change s.seq.phase .hold := by
  simp [State.enterHold]

@[simp] theorem State.enterDrain_seq : s.enterDrain.seq = { s.seq with
    phase := .drain, drainStep := .draining, drainTimer := some 0, tempCode := none, tempTimer := none } := by
  simp [State.enterDrain]

@[simp] theorem State.enterRecover_seq : s.enterRecover.seq = { s.seq with
    phase := .recover, residual := 0, recoveryTimer := some 0, tempCode := none, tempTimer := none } := by
  simp [State.enterRecover]

/-- R31: the two ways an entry into "CLOSE" ends. -/
theorem State.enterClose_seq : ∃ step timer, s.enterClose.seq = { s.seq with
      phase := .close, closeStep := step, bleedTimer := timer, drainTimer := none, recoveryTimer := none,
      tempCode := none, tempTimer := none } ∧
    ((step = .shutting ∧ timer = none) ∨ (step = .bleeding ∧ timer = some 0)) := by
  unfold State.enterClose State.endShutting
  split
  · exact ⟨.bleeding, some 0, by simp, .inr ⟨rfl, rfl⟩⟩
  · exact ⟨.shutting, none, by simp, .inl ⟨rfl, rfl⟩⟩

@[simp] theorem State.enterClose_ticket : s.enterClose.ticket = { s.ticket with meterMarker := false } := by
  unfold State.enterClose State.endShutting
  split <;> simp

/-- R38: the two ways a check for uncoupled arms in "TRIPPED" ends. -/
theorem State.closeUncoupled_cases :
    (s.closeUncoupled = s ∧ ¬ (s.seq.phase = .tripped ∧ s.ticketOpen = true ∧ s.armsUncoupled = true)) ∨
    (s.closeUncoupled = ((s.closeTicket .tripped).dropBaseline).onSeq
        (fun q => { q with held := none, stopped := false }) ∧
      s.seq.phase = .tripped ∧ s.ticketOpen = true ∧ s.armsUncoupled = true) := by
  unfold State.closeUncoupled
  split
  · exact .inr ⟨rfl, by assumption⟩
  · exact .inl ⟨rfl, by assumption⟩

/-! ### Trips -/

/-- R154: the three ways a report of a cause ends. -/
theorem State.latch_cases (c : Cause) :
    (s.latch c = s ∧ (s.seq.phase = .offline ∨ s.trip.latched.contains c = true)) ∨
    (s.seq.phase ≠ .offline ∧ s.trip.latched.contains c = false ∧
      s.latch c = ((s.onTrip (TripUnit.latch s.loader.ownAddress c)).onLine
        (fun l => if isSiding c then l.queueTrip else l)).tripEntry c s.loader.ownAddress) := by
  unfold State.latch
  split
  · rename_i h
    exact .inl ⟨rfl, by simpa using h⟩
  · rename_i h
    push Not at h
    exact .inr ⟨h.1, by simpa using h.2, rfl⟩

/-- R154: the trip unit at a report. -/
theorem State.latch_trip (c : Cause) : (s.latch c).trip =
    if s.seq.phase = .offline ∨ s.trip.latched.contains c = true then s.trip
    else TripUnit.latch s.loader.ownAddress c s.trip := by
  unfold State.latch
  split <;> simp

/-- R159, R161: the trip unit at an addition. -/
@[simp] theorem State.addRemote_trip (o : Nat) (cs : EntryCauses) :
    (s.addRemote o cs).trip = { s.trip with list := setEntry o cs s.trip.list } := by
  unfold State.addRemote
  split <;> simp

/-- R37: the phase after a report to an entry into "TRIPPED". -/
theorem State.tripEntry_phase (c : Cause) (o : Nat) :
    (s.tripEntry c o).seq.phase = if s.seq.phase = .offline then .offline else .tripped := by
  unfold State.tripEntry
  split
  · rename_i h
    rcases h with h | h <;> simp [h]
  · rename_i h
    push Not at h
    rw [if_neg h.1]
    unfold State.enterTripped
    rcases State.closeUncoupled_cases (((((s.abandonCheck.onSeq (fun q => { q with
      held := heldAtTrip q.phase q.held, reason := none, drainTimer := none, recoveryTimer := none,
      bleedTimer := none, residual := 0 })).enterPhase .tripped).setTempCode (causeCode c)).note
      .trip (o * 16 + causeNumber c))) with ⟨h1, _⟩ | ⟨h1, _⟩ <;> rw [h1] <;> simp

theorem mem_latchInto (c d : Cause) (l : List Cause) :
    d ∈ latchInto c l ↔ d ≠ .unknown ∧ (d = c ∨ d ∈ l) := by
  cases d <;> simp [latchInto, latchable]

/-- The originators of the list after an entry is set: in place, or one more at the end. -/
theorem setEntry_originators (o : Nat) (cs : EntryCauses) (l : List TripEntry) :
    (setEntry o cs l).map TripEntry.originator =
      if o ∈ l.map TripEntry.originator then l.map TripEntry.originator else l.map TripEntry.originator ++ [o] := by
  unfold setEntry
  by_cases h : o ∈ l.map TripEntry.originator
  · rw [if_pos h, if_pos (by simpa using h)]
    simp only [List.map_map]
    apply List.map_congr_left
    intro e _
    simp only [Function.comp]
    split <;> rfl
  · rw [if_neg h, if_neg (by simpa using h)]
    simp

end Sys2Proof.Machine
end

