-- ==== Sys2Proof/Laws/Frames.lean ====
section
/-!
SUPPORT. What the end of a frame can do (`State.endFrame_cases`, `State.takeGood_cases`), what its end leaves on the line, when a
counting timer has expired, and what an exit from "PUSH" cancels within a sample event. Later proofs cite these and
do not unfold the operations.
-/

namespace Sys2Proof.Machine

open Sys2Proof

/-! ## Timers -/

@[simp] theorem reached_none (limit : Nat) : reached limit none = false := rfl
@[simp] theorem reached_some (limit n : Nat) : reached limit (some n) = decide (limit ≤ n) := rfl

/-- R17: an expired timer is one that counts and stands at its limit. -/
theorem reached_iff (limit : Nat) (t : Timer) : reached limit t = true ↔ ∃ n, t = some n ∧ limit ≤ n := by
  cases t <;> simp

/-- R17: the tick of the model is the count the statements speak of. -/
theorem tickTo_eq_counted (limit : Nat) (t : Timer) : tickTo limit t = counted limit t := by
  cases t with
  | none => rfl
  | some n =>
    simp only [tickTo, counted, Option.map_some]
    split <;> congr 1 <;> omega

/-! ## Runs of bits -/

variable (l : LineController)

@[simp] theorem LineController.bitsRead_state : l.bitsRead.state = l.state := rfl
@[simp] theorem LineController.bitsRead_track : l.bitsRead.track = l.track := rfl
@[simp] theorem LineController.bitsRead_outgoing : l.bitsRead.outgoing = l.outgoing := rfl
@[simp] theorem LineController.bitsRead_inFlight : l.bitsRead.inFlight = l.inFlight := rfl
@[simp] theorem LineController.bitsRead_recessiveRun : l.bitsRead.recessiveRun = 0 := rfl
@[simp] theorem LineController.bitsRead_dominantRun : l.bitsRead.dominantRun = 0 := rfl

/-- R107: 100 ms on an idle line lengthen its recessive run. -/
@[simp] theorem LineController.recessiveLater_idle (ho : l.state ≠ .off) (h : l.track = .idle) :
    l.recessiveLater = ageTo 10 l.recessiveRun := by simp [LineController.recessiveLater, ho, h]

/-- R98, R107: 100 ms that leave line idle no leave no recessive run. -/
@[simp] theorem LineController.recessiveLater_busy (ho : l.state ≠ .off) (h : l.track ≠ .idle) :
    l.recessiveLater = 0 := by simp [LineController.recessiveLater, ho, h]

/-! ## The end of a frame -/

variable (s : State)

/-- R98, R100: the end of a frame writes the line's track, runs and ack slot. -/
theorem State.frameEnded_eq (ack : Bool) : s.frameEnded ack = { s with line := frameOver ack s.line } := rfl

theorem State.frameEnded_untouched (ack : Bool) : Untouched [.line] s (s.frameEnded ack) := by
  intro b hb
  cases b <;> first | exact rfl | exact absurd (by decide) hb

/-- R100, R103: a station that receives a frame unspoilt acknowledges a good check in every state but "FAULT". -/
theorem acknowledges_of_hears (h : Hears s) : s.line.acknowledges = acksGood s := by
  have hb : (s.line.track == .spoilt) = false := beq_eq_false_iff_ne.mpr h.2
  have hs : (s.line.state == .fault) = decide (s.line.state = .fault) := rfl
  simp [LineController.acknowledges, acksGood, h.1, hb, hs, bne]

/-- R107: the end of a frame not followed ends both runs and does nothing else. -/
theorem State.frameUnfollowed_eq : s.frameUnfollowed =
    if s.line.listens = true then { s with line := { s.line with recessiveRun := 0, dominantRun := 0 } } else s := rfl

/-- R100: all that the end of a frame can do. A frame not received leaves no more than its bits; one with a bad check, a
bad end or a spoilt bit ends on the line; a good frame of a sound end does what is said of it, after its end. -/
theorem State.endFrame_cases (good ends : Bool) (act : State → State) :
    (s.line.receives = false ∧ s.endFrame good ends act = s.frameUnfollowed) ∨
    (s.line.receives = true ∧ good = false ∧ s.endFrame good ends act = s.frameEnded false) ∨
    (s.line.receives = true ∧ good = true ∧ (ends = false ∨ s.line.track = .spoilt) ∧
      s.endFrame good ends act = s.frameEnded s.line.acknowledges) ∨
    (Hears s ∧ good = true ∧ ends = true ∧ s.endFrame good ends act = act (s.frameEnded (acksGood s))) := by
  cases hr : s.line.receives with
  | false => exact .inl ⟨rfl, by simp [State.endFrame, hr]⟩
  | true =>
    cases good with
    | false => exact .inr (.inl ⟨rfl, rfl, by simp [State.endFrame, hr]⟩)
    | true =>
      by_cases he : ends = true ∧ s.line.track ≠ .spoilt
      · have hh : Hears s := ⟨hr, he.2⟩
        exact .inr (.inr (.inr ⟨hh, rfl, he.1, by
          rw [State.endFrame, if_pos hr, if_pos rfl, if_pos he, acknowledges_of_hears s hh]⟩))
      · refine .inr (.inr (.inl ⟨rfl, rfl, ?_, by rw [State.endFrame, if_pos hr, if_pos rfl, if_neg he]⟩))
        cases ends with
        | false => exact .inl rfl
        | true => exact .inr (Decidable.not_not.mp fun h => he ⟨rfl, h⟩)

/-- R101: all that a good frame can do: a conflict for the own source, the owners' work for a valid one, else nothing. -/
theorem State.takeGood_cases (f : Frame) (hand : State → State) :
    (f.source.toNat = s.loader.ownAddress ∧ s.takeGood f hand = s.takeConflict) ∨
    (f.source.toNat ≠ s.loader.ownAddress ∧ validSource f.source.toNat = true ∧
      lengthOfKind f.kind.toNat f.payload.length = true ∧ s.takeGood f hand = hand s) ∨
    (f.source.toNat ≠ s.loader.ownAddress ∧
      (validSource f.source.toNat = false ∨ lengthOfKind f.kind.toNat f.payload.length = false) ∧
      s.takeGood f hand = s) := by
  by_cases hs : f.source.toNat = s.loader.ownAddress
  · exact .inl ⟨hs, by simp [State.takeGood, hs]⟩
  · cases hv : validSource f.source.toNat <;> cases hl : lengthOfKind f.kind.toNat f.payload.length
    all_goals first
      | exact .inr (.inl ⟨hs, rfl, rfl, by simp [State.takeGood, hs, hv, hl]⟩)
      | exact .inr (.inr ⟨hs, by simp, by simp [State.takeGood, hs, hv, hl]⟩)

/-- R99, R101: a good frame from another device that the station hears and R101 hands on does its owners' work. -/
theorem State.receive_handed (f : Frame) (hand : State → State) (h : Hears s) (hc : checkGood f = true)
    (ho : f.source.toNat ≠ s.loader.ownAddress) (hv : validSource f.source.toNat = true)
    (hl : lengthOfKind f.kind.toNat f.payload.length = true) :
    s.receive f hand = hand { s with line := frameOver (acksGood s) s.line } := by
  have hown : f.source.toNat ≠ (s.frameEnded (acksGood s)).loader.ownAddress := ho
  rw [State.receive, State.endFrame, if_pos h.1, if_pos hc, if_pos ⟨rfl, h.2⟩, acknowledges_of_hears s h,
    State.takeGood, if_neg hown, if_pos (by simp [hv, hl]), State.frameEnded_eq]

/-! ## Turns of a sample event -/

/-- R65: after a turn that leaves "PUSH" no liquid-out confirmation waits. -/
theorem Event.cancelAtExit_confirm (e : Event) (after : Phase) (h : after ≠ .push) :
    SampleReport.confirm ∉ (e.cancelAtExit .push after).waiting := by
  simp [Event.cancelAtExit, h]

/-- A turn within the phase cancels nothing. -/
theorem Event.cancelAtExit_same (e : Event) (phase : Phase) : e.cancelAtExit phase phase = e := by
  by_cases h : phase = .push <;> simp [Event.cancelAtExit, h]

end Sys2Proof.Machine
end

