-- ==== Sys2Proof/Tests/Slice0.lean ====
section
/-!
SUPPORT. Tests. The `test_` theorems check one step or one operation against the worked examples and tables of the
manual, named in their comments. The `witness_` theorems show, for each statement with hypotheses, a state and operands
that meet them, clause by clause and at the ends of a range where there is one. The `smoke_` theorems show that every
check of WellFormed refuses an ill-formed term.
-/

namespace Sys2Proof.Tests

open Sys2Proof Sys2Proof.Machine

/-! ## Small states -/

/-- The state after an outcome that is a next state. -/
def after (o : Host.Outcome State Fault Refusal) : State :=
  match o with
  | .next t => t
  | _ => .reset

/-- The configuration of the tests, field values from the worked examples where they give some. -/
def settings : Settings where
  capacity := ⟨6000, 4000, 24000⟩
  allowance := ⟨500, 400, 2000⟩
  announcePeriod := 10
  settleDepth := 3
  staleCount := 3
  lapseCount := 5
  forgetTime := 60
  islandCount := 3
  samplePeriod := 100
  sensors := ⟨⟨0, 2500, 3⟩, ⟨0, 2500, 3⟩, ⟨-500, 700, 3⟩, ⟨-5000, 5000, 3⟩, ⟨-5000, 5000, 3⟩, ⟨-5000, 5000, 3⟩⟩
  liquidGrams := 100
  vapourGrams := 20
  drainTime := 20
  recoveryLimit := 900
  bleedTime := 10
  vPush := 2000
  lPush := 12000
  throttleStep := 10
  vRec := 1500
  pRes := 250
  pBand := 500
  identityRequired := 1
  driftThreshold := ⟨30, 30, 20⟩
  holdTime := 30
  leakTolerance := 15
  emptyFlow := 2000
  emptyCount := 5
  vapourBand := 30
  confirmWait := 10
  excessLimit := 30000
  excessCount := 4
  surgeDrop := 150
  breakPressure := 400
  surgeWindow := 3
  saturation := [111, 168, 245, 345, 475, 637, 836, 1079, 1370, 1714, 2118]
  flashMargin := 50
  flashCount := 3
  maxThrottle := 2
  clearTime := 5
  driftCount := 3
  svRating := 3000
  rvRating := 2000
  trimStep := 20
  slewLimit := 100
  lvTravel := 50
  svTravel := 30
  rvTravel := 30
  demandStep := 500
  spotRating := ⟨2000, 2000, 10000⟩
  minGrant := ⟨200, 100, 1000⟩
  starveLimit := 100

def settled (active : Bool) : Debouncer := ⟨if active then .active else .inactive, some active, 3⟩

/-- Arms coupled, ground good, valves closed, nothing pressed. -/
def contacts : Twelve Debouncer :=
  ⟨settled true, settled true, settled true, settled false, settled false, settled true, settled true, settled true,
   settled false, settled false, settled false, settled false⟩

/-- The same contacts as raw levels. -/
def levels : Twelve Bool := ⟨true, true, true, false, false, true, true, true, false, false, false, false⟩

/-- Station 3 in "IDLE" on an idle line, both arms coupled. -/
def idle : State := { State.reset with
  resetting := none
  loader := ⟨.released, 0, none, 3, some settings, some 41647, .quiet⟩
  input := { InputUnit.reset with debounce := contacts, receiver := .accepting }
  seq := { Sequence.reset with phase := .idle }
  valve := { ValveDriver.reset with lv := ⟨.closed, none⟩, sv := ⟨.closed, none⟩, rv := ⟨.closed, none⟩ }
  line := { LineController.reset with state := .listen, track := .idle }
  share := { ShareUnit.reset with rings := ⟨[0, 0, 0], [0, 0, 0], [0, 0, 0]⟩ } }

/-- Ticket 42, open since uptime 86 400 s. -/
def ticket : Ticket where
  number := 42
  station := 3
  identity := [0x54, 0x4B]
  openTime := 86400
  closeTime := none
  delivered := 0
  recovered := 0
  peak := 0
  finalThrottle := none
  endReason := none
  notes := []
  overflow := false

/-- A state moved to a phase, with a ticket open. -/
def inPhase (p : Phase) (s : State) : State := { s with
  seq := { s.seq with phase := p }
  ticket := { s.ticket with current := some ticket, uptime := 86403, nextNumber := 43 } }

/-- A transfer in "PUSH": LV open, grants in force, readings above the detectors' limits. -/
def push : State :=
  let s := inPhase .push idle
  { s with
    input := { s.input with debounce := { contacts with lvOpen := settled true, lvClosed := settled false } }
    valve := { s.valve with lvCommand := .opened, lv := ⟨.opened, none⟩, svTarget := 511, svOpening := 400, sv := ⟨.opened, none⟩ }
    share := { s.share with share := ⟨1533, 0, 9000⟩, grant := ⟨1533, 0, 9000⟩ } }

/-- A check in its hold test (R50 and the worked sequence "a check that passes"). -/
def holdTest (pCar pLiq : Int) : State := { idle with
  input := { idle.input with sensors := ⟨⟨.good, pCar, pCar, 0⟩, ⟨.good, pLiq, pLiq, 0⟩, .reset, .reset, .reset, .reset⟩ }
  seq := { idle.seq with phase := .check }
  check := { CheckUnit.reset with
    step := .holdTest, start := some ⟨812, 798⟩, timer := some 300, baseline := some ⟨13, -40, 250⟩ } }

/-- The record of a peer. -/
def peer (address : Nat) (liveness : Liveness) (phase : Nat) (supply : Nat) : Peer :=
  ⟨address, if address ≤ 16 then .station else .observer, liveness, some phase, ⟨supply, supply, 0⟩, false,
    if address ≤ 16 then .match else .absent, 0, 0⟩

/-- A line controller with a frame in flight at the head of its list. -/
def sending (f : OutFrame) (s : State) : State := { s with line := { s.line with
  state := .ackchk, track := .inFrame, outgoing := [f], inFlight := some ⟨f, [], 0, ⟨2, ⟨0, 0, 0⟩⟩, false⟩ } }

/-- Station 3 in "TRIPPED" with these latched causes, its own entry where one of them has siding scope, and these remote
entries. -/
def tripped (latched : List Cause) (remote : List TripEntry) (s : State) : State := { inPhase .tripped s with
  seq := { s.seq with phase := .tripped, held := some .push }
  trip := ⟨latched, latched.any isSiding,
    (if latched.any isSiding then [⟨3, .known (TripUnit.mk latched false []).sidingSet⟩] else []) ++ remote⟩ }

/-- A transfer with a peer, a queued frame and a confirmed liquid-out, whose next step leaves "PUSH". -/
def busy : State := { push with
  peers := [peer 9 .current 3 900]
  line := { push.line with outgoing := [.announce] }
  det := { push.det with stage := .waiting, confirmTimer := some 10 }
  pending := [.confirmTimerExpiry] }

/-- What a frame command carries with the check of its frame (R99). -/
def good {α : Type} (kind : Nat) (source : Address) (bytes : List Byte) (content : α) : Checked α :=
  ⟨content, frameCheck kind source.toNat bytes⟩

def goodTrip (source : Address) (causeSet : Half) : Instr := .tripFrame source (good 0 source (halfBytes causeSet) causeSet)

def goodClear (source : Address) : Instr := .clearFrame (good 1 source [] source)

def goodAnnounce (source : Address) (payload : AnnouncePayload) : Instr :=
  .announceFrame source (good 2 source (announcePayloadBytes payload) payload)

def goodReport (source : Address) (bytes : List Byte) : Instr := .reportFrame source (good 4 source bytes bytes)

def goodDiscard (kind : BitVec 3) (source : Address) (bytes : List Byte) : Instr :=
  .frameDiscarded kind source (good kind.toNat source bytes bytes)

/-! ## Images -/

/-- Bytes 0 to 189 of a sound image. -/
def soundBytes : List Nat :=
  [23, 112, 15, 160, 93, 192, 1, 244, 1, 144, 7, 208, 10, 3, 3, 5, 0, 60, 3, 100, 0, 0, 9, 196] ++
  [3, 0, 0, 9, 196, 3, 254, 12, 2, 188, 3, 236, 120, 19, 136, 3, 236, 120, 19, 136, 3, 236, 120, 19] ++
  [136, 3, 0, 100, 0, 20, 20, 3, 132, 10, 7, 8, 35, 40, 10, 5, 220, 0, 250, 1, 244, 1, 0, 30] ++
  [0, 30, 0, 20, 30, 15, 7, 208, 5, 30, 10, 117, 48, 4, 0, 150, 1, 144, 3, 0, 111, 0, 168, 0] ++
  [245, 1, 89, 1, 219, 2, 125, 3, 68, 4, 55, 5, 90, 6, 178, 8, 70, 0, 50, 3, 2, 0, 5, 3] ++
  [11, 184, 7, 208, 20, 0, 100, 0, 50, 0, 30, 0, 30, 1, 244, 7, 208, 7, 208, 39, 16, 0, 200, 0] ++
  [100, 3, 232, 0, 100, 0, 0, 0, 0, 0, 0, 0, 0, 0, 0, 0, 0, 0, 0, 0, 0, 0, 0, 0] ++
  [0, 0, 0, 0, 0, 0, 0, 0, 0, 0, 0, 0, 0, 0, 0, 0, 0, 0, 0, 0, 0, 0]

theorem soundBytes_length : soundBytes.length = 190 := by decide +kernel

/-- 190 bytes with a number behind them as bytes 190 and 191. -/
def imageOf (l : List Nat) (h : l.length = 190) (crc : Nat) : Vector Byte 192 :=
  ⟨⟨l.map (BitVec.ofNat 8) ++ bytesOfNat16 crc⟩, by simp [h, bytesOfNat16]⟩

/-- 190 bytes with their own CRC. -/
def sealed (l : List Nat) (h : l.length = 190) : Vector Byte 192 := imageOf l h (crcBytes (l.map (BitVec.ofNat 8)))

theorem imageOf_front (l : List Nat) (h : l.length = 190) (n : Nat) :
    (imageOf l h n).toList.take 190 = l.map (BitVec.ofNat 8) := by
  have hm : (l.map (BitVec.ofNat 8)).length = 190 := by simpa using h
  rw [← hm]
  exact List.take_left

theorem sealed_crc (l : List Nat) (h : l.length = 190) :
    crcBytes ((sealed l h).toList.take 190) = halfAt (sealed l h).toList 190 := by
  rw [sealed, imageOf_front]
  exact (halfAt_end _ _ (by simpa using h) (crcBytes_lt _)).symm

/-- A sound image. -/
def sound : Vector Byte 192 := sealed soundBytes soundBytes_length

/-- The sound image with a CRC that is not its own. -/
def flipped : Vector Byte 192 :=
  imageOf soundBytes soundBytes_length ((crcBytes (soundBytes.map (BitVec.ofNat 8)) + 1) % 65536)

/-- The sound image with sample period 60 ms and its CRC rewritten. -/
def outOfRange : Vector Byte 192 := sealed (soundBytes.set 19 60) (by simp [soundBytes_length])

/-- Line 4 of the worked images: P_8 is 1000, below P_7, with the CRC rewritten. -/
def falling : Vector Byte 192 := sealed ((soundBytes.set 107 3).set 108 232) (by simp [soundBytes_length])

/-- A part in its first read attempt. -/
def reading : State := { State.reset with
  resetting := none, loader := { Loader.reset with ownAddress := 3, port := .attempt } }

theorem judge_sealed (l : List Nat) (h : l.length = 190) : judgeImage (sealed l h).toList =
    if !rangesGood (sealed l h).toList then some .lr
    else if !rising (settingsOf (sealed l h).toList).saturation then some .lt else none := by
  simp [judgeImage, crcGood, sealed_crc]

/-- R184 to R186: the sound image is valid. -/
theorem test_sound_image_is_valid : judgeImage sound.toList = none :=
  (judge_sealed _ _).trans (by decide +kernel)

/-- Line 4 of the worked images. -/
theorem test_falling_table_is_refused : judgeImage falling.toList = some .lt :=
  (judge_sealed _ _).trans (by decide +kernel)

/-! ## Worked examples of the manual -/

/-- R3, scaling examples: 2457 counts of P_car, 1500 of T_liq, 2457 of X, 780 and 4095 of P_liq. -/
theorem test_scaling_examples :
    classifyCounts ⟨0, 2500, 3⟩ 2457 = .good 1250 ∧ classifyCounts ⟨-500, 700, 3⟩ 1500 = .good (-251) ∧
    classifyCounts ⟨-5000, 5000, 3⟩ 2457 = .good 0 ∧ classifyCounts ⟨0, 2500, 3⟩ 780 = .good 0 ∧
    classifyCounts ⟨0, 2500, 3⟩ 4095 = .faulted := by decide

/-- R7, flow window example, samples 8 and 10, and the saturation case. -/
theorem test_flow_examples :
    flowOf 100 100 [4, 5, 5, 4, 5, 5, 4, 5] = 16650 ∧ flowOf 100 100 [5, 4, 5, 5, 4, 5, 5, 0] = 14850 ∧
    flowOf 5000 50 (List.replicate 8 1023) = 65535 := by decide

/-- R41, demand examples: HEADER at level 2, and RETURN in band, above it, at the residual and just above it. -/
theorem test_demand_examples :
    ({ push with det := { push.det with throttle := 2 } } : State).demand .header = 9600 ∧
    [480, 900, 250, 251].map (fun p : Int =>
      State.demand (inPhase .recover { idle with
        input := { idle.input with sensors := { idle.input.sensors with pCar := ⟨.good, p, p, 0⟩ } } }) .ret)
      = [690, 1500, 0, 3] := by decide

/-- R71, saturation examples. -/
theorem test_saturation_examples :
    [-452, -355, 0, 173, 599, 655].map (saturationAt settings.saturation) = [111, 136, 475, 782, 2113, 2118] := by decide

/-- R99: the check value of this CRC over the nine characters "123456789" is 29B1h. -/
theorem test_crc_check_value : crcBytes [0x31, 0x32, 0x33, 0x34, 0x35, 0x36, 0x37, 0x38, 0x39] = 0x29B1 := by
  decide +kernel

/-- R137, R139: the worked computation of station 3: 6000 less one lapsed allowance, and the shares in their order. -/
theorem test_water_fill_example :
    (waterFill 5500 (orderParticipants [⟨1800, 3⟩, ⟨2400, 5⟩, ⟨900, 7⟩, ⟨2400, 12⟩])).map
      (fun x => (x.1.address, x.2)) = [(7, 900), (3, 1533), (5, 1533), (12, 1534)] ∧
    ({ push with peers := [peer 9 .lapsed 3 2000] } : State).reducedCapacity .supply = 5500 := by decide

/-- R139: the worked computation with ties. -/
theorem test_water_fill_ties :
    (waterFill 1000 (orderParticipants [⟨400, 6⟩, ⟨400, 2⟩, ⟨400, 3⟩, ⟨0, 10⟩])).map
      (fun x => (x.1.address, x.2)) = [(10, 0), (2, 333), (3, 333), (6, 334)] := by decide

/-- R83, R84, R87: the worked SV sequence: base 511, trim up at 9450 kg/h, the opening at samples 1 and 5. -/
theorem test_sv_example :
    baseOpening 1533 3000 = 511 ∧ trimStep settings 9450 9000 0 = 20 ∧ trimStep settings 8100 9000 0 = 0 ∧
    trimStep settings 2250 9000 0 = 0 ∧ slewTo 100 511 0 = 100 ∧ slewTo 100 491 400 = 491 ∧
    slewTo 100 471 491 = 471 := by decide

/-- Section 10.7: the note HOLD 1 of ticket 42 at +3 s, and the METER limits of R170. -/
theorem test_note_bytes :
    noteBytes 86400 ⟨.hold, 86403, 1⟩ = [0x50, 0x01, 0x00, 0x00, 0x03] ∧
    addGrams 4294967000 4 100 = 4294967295 := by decide

/-- R169: the worked number passed over. -/
theorem test_number_passed_over :
    freeNumber [{ ticket with number := 7 }, { ticket with number := 65534 }, { ticket with number := 65535 }] 7 3 = 8 ∧
    nextTicket 65535 = 1 := by decide

/-- R48, R50: the sums of the worked baseline, divided toward zero, and the creeping Z axis at samples 5 and 6. -/
theorem test_baseline_examples :
    (CheckUnit.complete ⟨812, 798⟩ { CheckUnit.reset with sums := ⟨216, -652, 4002⟩ }).baseline = some ⟨13, -40, 250⟩ ∧
    ({ CheckUnit.reset with mins := ⟨none, none, some 250⟩, maxs := ⟨none, none, some 263⟩ } : CheckUnit).unsteady
      ⟨30, 30, 20⟩ = false ∧
    ({ CheckUnit.reset with mins := ⟨none, none, some 250⟩, maxs := ⟨none, none, some 275⟩ } : CheckUnit).unsteady
      ⟨30, 30, 20⟩ = true := by decide

/-- The worked START refusals: "NS", then "NF", then "NI". -/
theorem test_start_refusals :
    let four := [{ ticket with number := 1 }, { ticket with number := 2 }, { ticket with number := 3 }, { ticket with number := 4 }]
    let foreign := { peer 11 .current 1 0 with signature := .mismatch }
    State.startRefusal { idle with peers := [foreign], ticket := { idle.ticket with store := four } } = some .ns ∧
    State.startRefusal { idle with
      peers := [{ foreign with liveness := .lapsed }], ticket := { idle.ticket with store := four } } = some .nf ∧
    State.startRefusal idle = some .ni := by decide

/-- R157: the cause set {ESD, BREAK} as payload bytes, and section 9.5: notes TRIP of values 53, 145 and 415. -/
theorem test_trip_values :
    (SidingSet.mk true false true false).bytes = [0x00, 0x05] ∧
    ((after (exec (goodTrip 9 0x0005) push)).ticket.current.map Ticket.notes) = some [⟨.trip, 86403, 145⟩] ∧
    ((after (exec (goodAnnounce 25 ⟨0, 0x80, 0, 0, 0, 0⟩) push)).ticket.current.map Ticket.notes)
      = some [⟨.trip, 86403, 415⟩] := by decide +kernel

/-! ## Commands, one step each -/

/-- R180, worked sequence "RSTN and POR". -/
theorem test_resets :
    (after (exec .rstn push)).ticket.store.map (fun t => (t.number, t.closeTime, t.endReason))
      = [(42, some 86403, some .reset)] ∧
    (after (exec .por push)).ticket.nextNumber = 1 ∧ (after (exec .rstn push)).ticket.nextNumber = 43 := by decide

/-- R182, R183: straps 2 give address 3; the third failed attempt refuses with "LM". -/
theorem test_loader :
    (after (exec (.resetEnd 2) State.reset)).loader.ownAddress = 3 ∧
    (after (exec (.memoryAttemptFailed .selectWrite) reading)).loader.port = .pause ∧
    (after (exec (.memoryAttemptFailed .selectRead)
      { reading with loader := { reading.loader with attempts := 2 } })).display = .shows .lm ∧
    (after (exec .memoryRetryPauseExpiry
      { reading with loader := { reading.loader with port := .pause } })).loader.port = .attempt := by decide

/-- R188, R20: the release; line 6 of the worked images ends in "ID". -/
theorem test_release : (reading.judge sound.toList).seq.phase = .idle ∧
    (reading.judge sound.toList).line.outgoing = [.announce] := by
  rw [State.judge, test_sound_image_is_valid]
  decide +kernel

/-- R9, R10, R23: the third closed sample of START is a press, and the press is taken into "CHECK". -/
theorem test_sample_start :
    (after (exec (.sampleEvent ⟨2000, 1990, 1500, 2457, 2457, 2457⟩ { levels with start := true } [])
      { idle with input := { idle.input with
          identity := [0x54], debounce := { contacts with start := ⟨.inactive, some true, 2⟩ } } })).seq.phase = .check := by
  decide +kernel

/-- R155, R154, R37: a settled ESD contact trips the station. -/
theorem test_sample_esd :
    (after (exec (.sampleEvent ⟨2000, 1990, 1500, 2457, 2457, 2457⟩
        { levels with lvOpen := true, lvClosed := false, esd := true } [])
      { push with input := { push.input with debounce := { push.input.debounce with esd := ⟨.inactive, some true, 2⟩ } } })).trip
      = ⟨[.esd], true, [⟨3, .known ⟨true, false, false, false⟩⟩]⟩ := by
  decide +kernel

/-- R65, R64, R34: a liquid-out confirmed in an event in which a flashing hold and a START press come before it is not
taken by the resumed "PUSH"; without them it is. -/
theorem test_sample_confirm_is_cancelled :
    let s := { push with det := { push.det with lowCount := 4, throttle := 2, flashCount := 2 } }
    let quick := { s with loader := { s.loader with inUse := some { settings with confirmWait := 0, vapourBand := 6000 } } }
    let run := fun order : List SampleTurn => (after (exec (.sampleEvent ⟨2000, 1000, 4000, 2457, 2457, 2457⟩
      { levels with lvOpen := true, lvClosed := false, start := true } order)
      { quick with input := { quick.input with
          debounce := { quick.input.debounce with start := ⟨.inactive, some true, 2⟩ } } }))
    (run [.work .detectors, .take .hold, .work .panel, .take .confirm]).seq.phase = .push ∧
    (run [.work .detectors, .take .hold, .work .panel, .take .confirm]).ticket.current.map (fun k => k.notes.map Note.kind)
      = some [.hold, .resume, .starved] ∧
    (run [.work .detectors, .take .confirm]).seq.phase = .drain := by
  decide +kernel

/-- R6: the count stops at 1023. -/
theorem test_pulse_edge :
    (after (exec (.pulseEdge .liquid) { idle with input := { idle.input with liquidPulses := 1023 } })).input.liquidPulses
      = 1023 := by decide

/-- R13: the carriage return completes a line; a thirteenth character spoils it. -/
theorem test_character_arrival :
    (after (exec (.characterArrival 0x0D true) { idle with input := { idle.input with buffer := [0x54, 0x4B] } })).input.identity
      = [0x54, 0x4B] ∧
    (after (exec (.characterArrival 0x41 true)
      { idle with input := { idle.input with buffer := List.replicate 12 0x41 } })).input.discard = true := by decide

/-- R51 to R53: falls of 7 and −3 kPa pass, a fall of 18 kPa fails (worked sequence "a check that passes"). -/
theorem test_check_timer :
    (after (exec .checkTimerExpiry (holdTest 805 801))).seq.phase = .push ∧
    (after (exec .checkTimerExpiry (holdTest 805 780))).display = .shows .fl := by decide

/-- R28, R29: the drain timer shuts LV; the recovery timer closes with note EMPTY 2. -/
theorem test_phase_timers :
    (after (exec .drainTimerExpiry (inPhase .drain { idle with
      seq := { idle.seq with drainTimer := some 200 }, valve := { idle.valve with lvCommand := .opened } }))).valve.lv
      = ⟨.closing, some 0⟩ ∧
    (after (exec .recoveryTimerExpiry (inPhase .recover { idle with
      seq := { idle.seq with recoveryTimer := some 9000 } }))).ticket.current.map Ticket.notes
      = some [⟨.empty, 86403, 2⟩] := by decide

/-- R105, worked sequence "a failing line driver": the eighth error enters "FAULT" and ISLAND, the list kept. -/
theorem test_eighth_send_error :
    let seven := sending .announce idle
    let t := after (exec (.sendError .start)
      { seven with line := { seven.line with state := .contend, sendErrors := 7 } })
    (t.line.state, t.line.sendErrors, t.line.outgoing, t.share.island) = (.fault, 8, [.announce], .island) := by decide

/-- R115, R146: three unacknowledged ANNOUNCEs against an island count of 3. -/
theorem test_unacknowledged_announce :
    let two := sending .announce idle
    (after (exec (.sendCompleted false) { two with line := { two.line with unacked := 2 } })).share.island = .island ∧
    (after (exec (.sendCompleted false) { two with line := { two.line with unacked := 1 } })).share.island = .joined := by
  decide

/-- R98, R107: after a stuck line in "FAULT" the eleventh recessive bit is line idle again, and ten units of recessive
line end the fault; another device's start bit is the end of line idle. Time on a line that is not idle, and a frame
that the station does not follow, leave no recessive run. -/
theorem test_stuck_line_in_fault :
    let fault := { idle with line := { idle.line with state := .fault } }
    let t := after (exec .lineIdle (after (exec .stuckLine fault)))
    t.line.lineIdle = true ∧
    (after (exec .faultExit { t with line := (Nat.iterate (LineController.tick settings) 10 t.line) })).line.state = .listen ∧
    (after (exec .faultExit { t with line := (Nat.iterate (LineController.tick settings) 9 t.line) })).line.state = .fault ∧
    (after (exec .contentionStart t)).line.lineIdle = false ∧
    (({ t.line with track := .lost, recessiveRun := 9 } : LineController).tick settings).recessiveRun = 0 ∧
    (after (exec .frameBadCheck { t with line := { t.line with track := .lost, recessiveRun := 9 } })).line.recessiveRun = 0 ∧
    (after (exec .faultExit (after (exec .stuckLine idle)))).line.state = .fault := by decide

/-- R99, R100, R103: a TRIP with one bit of its check changed is discarded and not acknowledged; a good one is taken, and
acknowledged but in "FAULT"; one with a bad end is acknowledged and not taken. -/
theorem test_ack_slot :
    let bad := after (exec (.tripFrame 9 ⟨5, frameCheck 0 9 [0, 5] ^^^ 1⟩) idle)
    let heard := fun l : LineState => after (exec (goodTrip 9 5) { idle with line := { idle.line with state := l } })
    bad.trip.list = [] ∧ bad.line.ackDriven = false ∧ bad.line.track = .afterFrame ∧
    (after (exec .frameBadCheck idle)).line = bad.line ∧ (after (exec .frameEndFieldError idle)).line.ackDriven = true ∧
    (heard .listen).trip.list = [⟨9, .known ⟨true, false, true, false⟩⟩] ∧ (heard .listen).line.ackDriven = true ∧
    (heard .silent).line.ackDriven = true ∧ (heard .fault).line.ackDriven = false ∧
    (heard .fault).trip.list = (heard .listen).trip.list := by decide +kernel

/-- R121, R123: an ANNOUNCE with a foreign signature makes a record in MISMATCH. -/
theorem test_announce_frame :
    (after (exec (goodAnnounce 5 ⟨3, 0x40, 2400, 0, 0, 1⟩) idle)).peers
      = [⟨5, .station, .current, some 3, ⟨2400, 0, 0⟩, true, .mismatch, 0, 0⟩] := by decide +kernel

/-- R128, first row: an arrival before the stale threshold leaves a CURRENT record of age 0. -/
theorem test_arrival_before_the_stale_threshold :
    let s := { push with peers := [{ peer 9 .current 3 900 with age := 30 }] }
    (after (exec (.staleThresholdReached 9) s)).peers.map Peer.liveness = [.stale] ∧
    (after (exec (.staleThresholdReached 9) (after (exec (goodClear 9) s)))).peers.map
      (fun r => (r.liveness, r.age)) = [(.current, 0)] := by decide +kernel

/-- R176, R179: the worked series for ticket 42 has 7 parts; a COLLECT removes a closed ticket. -/
theorem test_inquiry_and_collect :
    let closed := { ticket with notes := List.replicate 5 ⟨.hold, 86403, 1⟩, endReason := some .complete }
    let s := { idle with ticket := { idle.ticket with store := [{ ticket with number := 41 }, closed] } }
    (after (exec (.inquiry 25 3 (good 3 25 [3, 0, 42] 42)) s)).ticket.series = some ⟨42, 7⟩ ∧
    (after (exec (.collect 25 3 (good 5 25 [3, 0, 41] 41)) s)).ticket.store = [closed] := by decide +kernel

/-- No row of the table has bits, so no word spells a command. -/
theorem test_no_word_spells_a_command : decodeTableWord 16 0x1234 = none := rfl

/-! ## WellFormed -/

theorem smoke_turn_named_twice :
    (Instr.sampleEvent ⟨0, 0, 0, 0, 0, 0⟩ levels [.work .panel, .work .panel]).wellFormed = false := by decide

theorem smoke_record_of_no_device :
    (Instr.staleThresholdReached 0).wellFormed = false ∧ (Instr.lapseThresholdReached 17).wellFormed = false ∧
    (Instr.forgetTimeReached 31).wellFormed = false := by decide

theorem smoke_source_of_no_device :
    (goodTrip 23 0).wellFormed = false ∧ (goodClear 0).wellFormed = false ∧
    (goodAnnounce 31 ⟨0, 0, 0, 0, 0, 0⟩).wellFormed = false ∧
    (Instr.inquiry 17 3 (good 3 17 [3, 0, 1] 1)).wellFormed = false ∧
    (Instr.collect 20 3 (good 5 20 [3, 0, 1] 1)).wellFormed = false ∧
    (goodReport 0 [0, 0, 0, 0]).wellFormed = false := by decide +kernel

theorem smoke_report_length :
    [(3, false), (4, true), (15, true), (16, false)].all (fun x : Nat × Bool =>
      (goodReport 5 (List.replicate x.1 0)).wellFormed == x.2) = true := by decide +kernel

/-- A check field that is the check of another frame. -/
theorem smoke_check :
    (goodTrip 5 1).wellFormed = true ∧ (Instr.tripFrame 5 (good 0 5 [0, 2] 1)).wellFormed = false ∧
    (Instr.clearFrame (good 1 6 [] 5)).wellFormed = false ∧
    (Instr.announceFrame 5 (good 2 5 [] ⟨0, 0, 0, 0, 0, 0⟩)).wellFormed = false ∧
    (Instr.inquiry 25 3 (good 5 25 [3, 0, 1] 1)).wellFormed = false ∧
    (Instr.collect 25 3 (good 3 25 [3, 0, 1] 1)).wellFormed = false ∧
    (Instr.reportFrame 5 (good 4 5 [0, 0, 0, 1] [0, 0, 0, 0])).wellFormed = false ∧
    (Instr.frameDiscarded 6 5 (good 7 5 [] [])).wellFormed = false := by decide +kernel

theorem smoke_frame_handed_on_is_no_discard :
    [(2, 5, 10, false), (2, 5, 9, true), (6, 5, 0, true), (2, 17, 10, true), (2, 17, 16, false)].all
      (fun x : Nat × Nat × Nat × Bool =>
        (goodDiscard (BitVec.ofNat 3 x.1) (BitVec.ofNat 5 x.2.1) (List.replicate x.2.2.1 0)).wellFormed == x.2.2.2)
      = true := by decide +kernel

/-! ## Witnesses: hypotheses of the statements, met by concrete states -/

theorem witness_CommandsLeaveTheQueue : ∃ t, exec .uptimeSecond push = .next t := ⟨_, rfl⟩

theorem witness_IdleStepCountsTime :
    idle.pending = [] ∧ idle.line.sending = false ∧
    [LineState.contend, .send, .ackchk].all (fun l =>
      ({ idle with line := { idle.line with state := l } } : State).pending.isEmpty) = true := by decide

theorem witness_RstnKeepsTheTickets : idle.ticket.current = none ∧ push.ticket.current = some ticket := by decide

/-- Attempt counts 1 and 2 are the ends of the two clauses. -/
theorem witness_LoaderReadsInThreeAttempts :
    State.reset.resetting ≠ none ∧ reading.resetting = none ∧ reading.loader.state = .reading ∧
    reading.loader.port = .attempt ∧
    ({ reading with loader := { reading.loader with attempts := 1 } } : State).loader.attempts < 2 ∧
    2 ≤ ({ reading with loader := { reading.loader with attempts := 2 } } : State).loader.attempts ∧
    ({ reading with loader := { reading.loader with port := .pause } } : State).loader.port = .pause := by decide

/-- A changed CRC; a sample period of 60 ms; a falling table; and the sound image, in range with a rising table. -/
theorem witness_BadImageIsRefused :
    (reading.resetting = none ∧ reading.loader.state = .reading ∧ reading.loader.port = .attempt) ∧
    crcBytes (flipped.toList.take 190) ≠ halfAt flipped.toList 190 ∧
    (crcBytes (outOfRange.toList.take 190) = halfAt outOfRange.toList 190 ∧ ¬ ImageInRange outOfRange.toList) ∧
    (crcBytes (falling.toList.take 190) = halfAt falling.toList 190 ∧ ImageInRange falling.toList ∧
      ∃ i, i < 10 ∧ halfAt falling.toList (91 + 2 * (i + 1)) < halfAt falling.toList (91 + 2 * i)) ∧
    (crcBytes (sound.toList.take 190) = halfAt sound.toList 190 ∧ ImageInRange sound.toList ∧
      ∀ i, i < 10 → halfAt sound.toList (91 + 2 * i) ≤ halfAt sound.toList (91 + 2 * (i + 1))) := by
  refine ⟨by decide, ?_, ⟨sealed_crc _ _, by decide +kernel⟩,
    ⟨sealed_crc _ _, by decide +kernel, 7, by decide, by decide +kernel⟩,
    ⟨sealed_crc _ _, by decide +kernel, by decide +kernel⟩⟩
  have h := crcBytes_lt (soundBytes.map (BitVec.ofNat 8))
  rw [flipped, imageOf_front]
  have e := halfAt_end (soundBytes.map (BitVec.ofNat 8))
    ((crcBytes (soundBytes.map (BitVec.ofNat 8)) + 1) % 65536) (by simp [soundBytes_length]) (Nat.mod_lt _ (by decide))
  have e' : halfAt (imageOf soundBytes soundBytes_length
      ((crcBytes (soundBytes.map (BitVec.ofNat 8)) + 1) % 65536)).toList 190 =
      (crcBytes (soundBytes.map (BitVec.ofNat 8)) + 1) % 65536 := e
  rw [e']
  omega

theorem witness_ValidImageReleasesThePart :
    (reading.resetting = none ∧ reading.loader.state = .reading ∧ reading.loader.port = .attempt) ∧
    OutgoingOrdered reading ∧ judgeImage sound.toList = none := ⟨by decide, by decide, test_sound_image_is_valid⟩

theorem witness_AnalogCountsMakeSensorRecords :
    let g : SensorGroup := ⟨-5000, 5000, 3⟩
    g.lo < g.hi ∧ g.hi - g.lo ≤ 10000 ∧
    (736#12).toNat ≤ 736 ∧ 737 ≤ (737#12).toNat ∧ (818#12).toNat ≤ 818 ∧ 819 ≤ (819#12).toNat ∧
    (4094#12).toNat ≤ 4094 ∧ (4095#12).toNat = 4095 ∧
    classifyCounts g (4094#12).toNat = .good 4996 ∧ classifyCounts g (736#12).toNat = .faulted := by decide

theorem witness_SampleEventReadsTheInputs :
    idle.seq.phase ≠ .offline ∧ [SampleTurn.work .panel, .take .confirm].Nodup ∧
    ∀ turn ∈ [SampleTurn.work .panel, .take .confirm], turn ∈ allTurns := by decide

theorem witness_DebouncerSettlesAtThreeSamples :
    let d : Debouncer := ⟨.inactive, some true, 2⟩
    d.lastRaw = some true ∧ d.lastRaw ≠ some false ∧ (debounceStep d true).run = 3 ∧ (debounceStep d false).run ≠ 3 ∧
    Debouncer.reset.stable = .unsettled := by decide

/-- RESET at the third "ACTIVE" sample from "INACTIVE" and from "UNSETTLED"; held by a press at the 29th and the 30th later
sample, 30 being 3000 / T_s; held through a reset; and released. -/
theorem witness_PressesAreReportedOncePerHolding :
    let at_ := fun (d : Debouncer) (n : Nat) (h : Bool) => { push with input := { push.input with
      debounce := { contacts with reset := d, start := d, stop := d }, longPress := n, resetHeld := h } }
    let down : Twelve Bool := { levels with reset := true, start := true, stop := true }
    let third := fun d : Stable => (⟨d, some true, 2⟩ : Debouncer)
    (settled true).stable = .active ∧ push.seq.phase ≠ .offline ∧
    (((at_ (third .inactive) 0 false).eventOf down).panel = ⟨true, true, true, false⟩) ∧
    (((at_ (third .unsettled) 0 false).eventOf down).panel = ⟨false, false, false, false⟩) ∧
    (((at_ (settled true) 28 true).eventOf down).panel.longPress = false) ∧
    (((at_ (settled true) 29 true).eventOf down).panel.longPress = true) ∧
    (((at_ (settled true) 29 false).eventOf down).panel.longPress = false) ∧
    (debounceStep ⟨.active, some false, 2⟩ false).stable ≠ .active := by decide

/-- Codes 20h and 7Eh, and 11 and 12 characters held, are the ends of their clauses. -/
theorem witness_CharacterArrivalFollowsItsTable :
    idle.input.receiver = .accepting ∧ 0x20 ≤ (0x20#8).toNat ∧ (0x7E#8).toNat ≤ 0x7E ∧
    (0x1F#8).toNat < 0x20 ∧ 0x7E < (0x7F#8).toNat ∧ idle.input.discard = false ∧ idle.input.buffer = [] ∧
    ({ idle.input with buffer := List.replicate 11 0x41 } : InputUnit).buffer.length < 12 ∧
    12 ≤ ({ idle.input with buffer := List.replicate 12 0x41 } : InputUnit).buffer.length ∧
    ({ idle.input with discard := true } : InputUnit).discard = true := by decide

theorem witness_SmallEventsCountOne :
    idle.seq.phase ≠ .offline ∧ State.reset.seq.phase = .offline ∧
    ({ idle.input with receiver := .waiting } : InputUnit).receiver = .waiting ∧ idle.resetting ≠ some .por := by decide

/-- A holder of an identity, with which `idle` meets all seven conditions of START. -/
def ready : State := { idle with input := { idle.input with identity := [0x54] } }

theorem witness_StartIsJudgedInOrder :
    idle.seq.phase = .idle ∧ (⟨true, false, false, false⟩ : PanelReports).start = true ∧
    (idle.cfg.identityRequired = 1 ∧ idle.input.identity = []) ∧
    ready.seq.phase = .idle ∧ ready.armsCoupled = true ∧ ready.groundOk = true ∧ ready.trip.list.isEmpty = true ∧
    ready.trip.latched.isEmpty = true ∧ ready.line.outgoing.contains .clear = false ∧ ready.peers = [] ∧
    ready.ticket.store.length < 4 ∧ sixAll (fun r => r.status != .fail) ready.input.sensors = true ∧
    ready.input.identity ≠ [] := by decide

theorem witness_PressesActByPhase :
    (⟨true, true, false, false⟩ : PanelReports).stop = true ∧ push.seq.phase = .push ∧
    (⟨true, false, true, true⟩ : PanelReports).stop = false ∧ (⟨false, false, true, false⟩ : PanelReports).start = false ∧
    push.panelWork ⟨true, false, true, true⟩ = (push, false) ∧ idle.panelWork ⟨false, false, true, true⟩ = (idle, false) ∧
    [Phase.recover, .hold, .check, .idle, .drain, .close, .offline, .tripped].all (fun p =>
      decide ((inPhase p idle).seq.phase = p)) = true := by decide

theorem witness_StartResumesTheHeldPhase :
    [HeldPhase.push, .drain, .recover, .close].all (fun h =>
      let s := inPhase .hold { idle with seq := { idle.seq with held := some h } }
      decide (PushQuiet s ∧ s.seq.phase = .hold ∧ s.seq.held = some h)) = true ∧
    (⟨true, false, false, false⟩ : PanelReports).start = true ∧
    (⟨true, false, false, false⟩ : PanelReports).stop = false := by decide

/-- Each timer at its limit: 20 s, 900 s, 5 s and 10 s. -/
theorem witness_SequenceAdvancesAtTimersAndSamples :
    let s := inPhase .drain { idle with seq := { idle.seq with drainTimer := some 200, tempTimer := some 50 } }
    let r := inPhase .recover { idle with seq := { idle.seq with recoveryTimer := some 9000 } }
    let c := inPhase .close { idle with seq := { idle.seq with closeStep := .bleeding, bleedTimer := some 100 } }
    let u := { c with input := { c.input with debounce := { contacts with
      liquidArm := settled false, vapourArm := settled false } } }
    s.seq.phase = .drain ∧ s.seq.drainTimer = some 200 ∧ 10 * s.cfg.drainTime ≤ 200 ∧ s.seq.tempTimer = some 50 ∧
    r.seq.phase = .recover ∧ r.seq.recoveryTimer = some 9000 ∧ 10 * r.cfg.recoveryLimit ≤ 9000 ∧
    c.seq.phase = .close ∧ c.seq.bleedTimer = some 100 ∧ 10 * c.cfg.bleedTime ≤ 100 ∧ c.armsUncoupled = false ∧
    u.armsUncoupled = true ∧ u.ticket.current = some ticket := by decide

/-- The fourth and the fifth sample in a row with P_car at P_res, and one above it (R29); LV confirmed closed with and
without a RETURN capacity (R28); all three valves confirmed closed (R31); arms taken off in "RELEASING" and in "TRIPPED". -/
theorem witness_SequenceAdvancesAtSamples :
    let at_ := fun (p : Int) (n : Nat) => inPhase .recover { idle with
      seq := { idle.seq with residual := n }
      input := { idle.input with sensors := { idle.input.sensors with pCar := ⟨.good, p, p, 0⟩ } } }
    let d := inPhase .drain { idle with seq := { idle.seq with drainStep := .shutting } }
    let none_ := { d with loader := { d.loader with inUse := some { settings with capacity := ⟨6000, 0, 24000⟩ } } }
    let c := inPhase .close { idle with input := { idle.input with debounce := { contacts with
      liquidArm := settled false, vapourArm := settled false } } }
    let off := { c with seq := { c.seq with closeStep := .releasing } }
    (at_ 250 3).residualWork.seq.residual = 4 ∧ (at_ 250 4).residualWork.seq.phase = .close ∧
    (at_ 251 4).residualWork.seq.residual = 0 ∧
    0 < d.cfg.capacity.ret ∧ (d.takeReport .lvClosed).seq.phase = .recover ∧
    none_.cfg.capacity.ret = 0 ∧ (none_.takeReport .lvClosed).seq.phase = .close ∧
    c.seq.closeStep = .shutting ∧ c.valve.allClosed = true ∧ (c.takeReport .allClosed).seq.closeStep = .bleeding ∧
    off.armsUncoupled = true ∧ off.armsWork.seq.phase = .idle ∧
    ({ off with seq := { off.seq with phase := .tripped } } : State).armsWork.ticket.current = none ∧
    push.takeReport .lvClosed = push ∧ push.armsUncoupled = false := by decide

/-- A reset, a refused image and the read before it, a refusal code in "IDLE", and the lamps of "PUSH" in ISLAND. -/
theorem witness_DisplayAndLampsShowTheState :
    State.reset.resetting ≠ none ∧ State.reset.display = .blank ∧ OfflineQuiet State.reset ∧
    reading.resetting = none ∧ reading.seq.phase = .offline ∧ reading.display = .shows .of ∧
    ({ reading with loader := { reading.loader with cause := some .lt } } : State).display = .shows .lt ∧
    idle.display = .shows .id ∧ (idle.setTempCode .ng).display = .shows .ng ∧
    ({ push with share := { push.share with island := .island } } : State).lamps = ⟨true, false, false, true⟩ := by decide

/-- A check at its first, its last and an unsteady sample, and with an arm lost; the sixteenth completes the baseline. -/
theorem witness_BaselineIsTakenOverSixteenSamples :
    let check := fun (n : Nat) (high : Option Int) => { idle with
      seq := { idle.seq with phase := .check }
      check := { CheckUnit.reset with step := .baseline, count := n, maxs := ⟨high, none, none⟩ } }
    let s := check 0 none
    let far := check 5 (some 31)
    let lost := { s with input := { s.input with debounce := { contacts with liquidArm := settled false } } }
    s.seq.phase = .check ∧ s.groundOk = true ∧ s.armsCoupled = true ∧
    s.check = ⟨.baseline, 0, ⟨0, 0, 0⟩, ⟨none, none, none⟩, ⟨none, none, none⟩, none, none, none⟩ ∧
    lost.check.step ≠ .inactive ∧ lost.armsCoupled = false ∧
    (far.cfg.driftThreshold.x : Int) < 31 - far.input.sensors.x.value ∧
    (check 14 none).check.count < 15 ∧ 15 ≤ (check 15 none).check.count ∧ (holdTest 805 801).check.step = .holdTest := by
  decide

/-- Falls of exactly 15 kPa, the leak tolerance, and of 16 kPa. -/
theorem witness_HoldTestPassesOrFails :
    let s := holdTest 797 783
    let f := holdTest 796 783
    s.seq.phase = .check ∧ s.check.step = .holdTest ∧ s.check.timer = some 300 ∧
    10 * s.cfg.holdTime ≤ 300 ∧ s.check.start = some ⟨812, 798⟩ ∧
    812 - s.input.sensors.pCar.value ≤ (s.cfg.leakTolerance : Int) ∧
    798 - s.input.sensors.pLiq.value ≤ (s.cfg.leakTolerance : Int) ∧
    (f.cfg.leakTolerance : Int) < 812 - f.input.sensors.pCar.value := by decide

/-- A store with ticket 65535, the next number 65535: the number taken is 1. -/
theorem witness_NewTicketTakesTheFirstFreeNumber :
    let s := { holdTest 805 801 with ticket := { TicketUnit.reset with
      store := [{ ticket with number := 65535 }], nextNumber := 65535 } }
    NumbersDiffer s ∧ s.seq.phase = .check ∧
    (after (exec .checkTimerExpiry s)).ticket.current.map Ticket.number = some 1 := by decide

theorem witness_PushTimersExpire :
    let s := { push with
      det := { push.det with stage := .waiting, confirmTimer := some 10 }, share := { push.share with starvation := some 100 } }
    let c := { push with det := { push.det with throttle := 1, clearTimer := some 50 } }
    s.det.stage = .waiting ∧ s.det.confirmTimer = some 10 ∧ s.cfg.confirmWait ≤ 10 ∧ s.seq.phase = .push ∧
    s.share.starvation = some 100 ∧ s.cfg.starveLimit ≤ 100 ∧ (inPhase .hold s).seq.phase ≠ .push ∧
    c.seq.phase = .push ∧ c.det.clearTimer = some 50 ∧ 0 < c.det.throttle ∧ 10 * c.cfg.clearTime ≤ 50 ∧
    49 < 10 * c.cfg.clearTime := by decide

/-- Pressures 30 kPa apart are close at a vapour-through band of 30, and 31 kPa apart they are far. A flow of 1999 is low at
an empty flow of 2000, which itself is not; a trim of 1000, and a grant of 0, suspend; a wait in progress. -/
theorem witness_LowSamplesCountToTheEmptyCount :
    let apart := fun d : Int => { push with input := { push.input with
      sensors := { push.input.sensors with pCar := ⟨.good, d, d, 0⟩ } } }
    let s := apart 30
    push.det.stage = .counting ∧ push.det.lowCount = 0 ∧ s.share.grant.supply ≠ 0 ∧ s.share.grant.header ≠ 0 ∧
    s.valve.trim ≠ 1000 ∧ s.input.flow < s.cfg.emptyFlow ∧ 0 < s.cfg.emptyCount ∧ 0 < s.cfg.confirmWait ∧
    (s.input.sensors.pCar.value - s.input.sensors.pLiq.value).natAbs ≤ s.cfg.vapourBand ∧
    s.cfg.vapourBand <
      ((apart 31).input.sensors.pCar.value - (apart 31).input.sensors.pLiq.value).natAbs ∧
    1999 < s.cfg.emptyFlow ∧ ¬ 2000 < s.cfg.emptyFlow ∧ idle.share.grant.supply = 0 ∧
    ({ push.valve with trim := 1000 } : ValveDriver).trim = 1000 ∧ busy.det.stage = .waiting ∧ busy.seq.phase = .push ∧
    idle.seq.phase ≠ .push := by decide

/-- A start sample: P_liq falls from 600 to 400 kPa, the break pressure, with a baseline held; a fall of 150 is no start.
The worked window: started at sample 3, armed again at sample 6. -/
theorem witness_DetectorsJudgeEachSample :
    let s := { push with
      input := { push.input with sensors := { push.input.sensors with pLiq := ⟨.good, 400, 400, 0⟩ } }
      check := { push.check with baseline := some ⟨13, -40, 250⟩ } }
    let d := { push.det with previousPLiq := some 600 }
    ((s.cfg.surgeDrop : Int) < 600 - s.input.sensors.pLiq.value ∧ ¬ (s.cfg.surgeDrop : Int) < 550 - s.input.sensors.pLiq.value) ∧
    (s.cfg.breakPressure : Int) ≤ s.input.sensors.pLiq.value ∧ 0 < s.cfg.surgeWindow ∧ s.seq.phase = .push ∧
    s.check.baseline = some ⟨13, -40, 250⟩ ∧ ((idle.seq.phase ≠ .push) ∧ idle.check.baseline = none) ∧
    [1, 2, 3, 4].map (fun k => (Nat.iterate s.surgeJudge k d).surge) = [.window, .window, .window, .armed] := by decide

/-- LV closed with its switch open, in "PUSH", "RECOVER" and "TRIPPED". -/
theorem witness_ValvesMoveAndAreSupervised :
    [Phase.push, .recover, .tripped].all (fun p => decide ((inPhase p push).seq.phase ≠ .offline)) = true ∧
    .cause .valve ∉ (inPhase .recover push).valveWork.2 ∧
    .cause .valve ∈ ({ push with valve := { push.valve with lv := ⟨.closed, none⟩ } } : State).valveWork.2 := by
  decide

theorem witness_SaturationPressureFollowsTheTable :
    settings.saturation.length = 11 ∧ (∀ p ∈ settings.saturation, p ≤ 6000) ∧
    settings.saturation.Pairwise (fun a b => a ≤ b) := by decide

theorem witness_TravelTimerLatchesValve :
    let late := fun c : Cause => { push with
      valve := { push.valve with
        lvCommand := .closed, lv := ⟨.closing, some 50⟩, sv := ⟨.closing, some 30⟩, svOpening := 0, svTarget := 0 }
      trip := { push.trip with latched := [c] } }
    let opening := { push with valve := { push.valve with lv := ⟨.opening, some 50⟩ } }
    (late .valve).seq.phase ≠ .offline ∧
    [(Valve.lv, 50), (.sv, 30)].all (fun x : Valve × Nat => decide (
      (late .valve).valve.channel x.1 = ⟨.closing, some x.2⟩ ∧ travelTime (late .valve).cfg x.1 ≤ x.2)) = true ∧
    (late .valve).trip.latched.contains .valve = true ∧ (late .ground).trip.latched.contains .valve = false ∧
    (late .ground).valve.lvCommand = .closed ∧ (late .ground).valve.svOpening = 0 ∧
    opening.valve.lv = ⟨.opening, some 50⟩ ∧ opening.cfg.lvTravel ≤ 50 ∧ opening.valve.lvCommand = .opened ∧
    opening.trip.latched.contains .valve = false ∧ opening.seq.phase ≠ .tripped := by decide

theorem witness_ContentionTakesTheHeadFrame :
    [OutFrame.trip, .clear, .announce, .report 1].all (fun f =>
      let s := { push with
        line := { push.line with outgoing := [f] }, ticket := { push.ticket with series := some ⟨42, 4⟩ } }
      decide (s.line.state = .listen ∧ s.line.lineIdle = true ∧ s.line.outgoing = [f] ∧
        s.ticket.series = some ⟨42, 4⟩)) = true := by decide

theorem witness_FaultPutsTheStationInIsland :
    let s := sending .announce push
    LineState.reaches { s.line with state := .send, sendErrors := 7 }.state .body = true ∧
    7 ≤ { s.line with sendErrors := 7 }.sendErrors ∧
    push.line.state ≠ .off ∧ push.line.state ≠ .fault ∧ push.line.state ≠ .silent ∧ push.share.island = .joined := by
  decide

theorem witness_LineStatesFollowTheirEvents :
    let at_ := fun (l : LineState) (k : Track) => { idle.line with state := l, track := k, sendErrors := 6 }
    [SendErrorPlace.start, .header, .body, .trailer].all (LineState.contend.reaches ·) = true ∧
    (at_ .contend .inFrame).state = .contend ∧ (at_ .contend .inFrame).sendErrors < 7 ∧
    ((at_ .fault .idle).state = .fault ∧ 10 ≤ { at_ .fault .idle with recessiveRun := 10 }.recessiveRun) ∧
    (at_ .listen .lost).state ≠ .off ∧ (at_ .listen .lost).track = .lost ∧ (at_ .listen .afterFrame).track = .afterFrame ∧
    (at_ .listen .inFrame).track = .inFrame ∧ (at_ .listen .spoilt).track = .spoilt ∧
    (at_ .listen .idle).lineIdle = true ∧ (at_ .listen .idle).outgoing = [] ∧ (at_ .listen .lost).lineIdle = false ∧
    (at_ .silent .inFrame).state = .silent := by decide

theorem witness_CompletedFrameLeavesTheList :
    let s := sending (.report 7) { push with ticket := { push.ticket with series := some ⟨42, 7⟩ } }
    let two := { s with line := { s.line with outgoing := [.report 7, .report 8] } }
    s.line.sending = true ∧ (s.line.inFlight.map InFlight.frame) = some (.report 7) ∧
    s.line.outgoing.filter (fun f => decide (f ≠ .report 7)) = [] ∧
    two.line.outgoing.filter (fun f => decide (f ≠ .report 7)) = [.report 8] := by decide

theorem witness_CompletedAnnounceIsReported :
    let s := sending .announce push
    OutgoingOrdered s ∧ s.line.sending = true ∧ (s.line.inFlight.map InFlight.frame) = some .announce ∧
    0 < s.cfg.announcePeriod ∧ s.share.island = .joined := by decide

/-- An unacknowledged count of 2 becomes 3, the island count; 1 becomes 2. -/
theorem witness_AcknowledgementsMoveTheIslandState :
    let s := fun n : Nat => sending .announce { push with line := { push.line with unacked := n } }
    let i := { s 0 with share := { push.share with island := .island } }
    (s 2).line.sending = true ∧ (s 2).share.island = .joined ∧ (s 2).share.faultMarker = false ∧
    (s 2).cfg.islandCount ≤ min 255 ((s 2).line.unacked + 1) ∧
    min 255 ((s 1).line.unacked + 1) < (s 1).cfg.islandCount ∧ (s 2).cfg.allowance.supply < (s 2).share.grant.supply ∧
    i.share.island = .island ∧ i.share.faultMarker = false ∧
    ({ i.share with faultMarker := true } : ShareUnit).faultMarker = true := by decide

/-- The prompt test with the spacing time reached, behind a TRIP in an ordered list. -/
theorem witness_TimersAndPromptTestQueueOneAnnounce_ordered :
    let moved := { push with line := { push.line with
      lastAnnounced := some ⟨2, ⟨0, 0, 0⟩⟩, spacingTimer := some 3, outgoing := [.trip] } }
    OutgoingOrdered moved ∧ moved.promptTest.line.outgoing = [.trip, .announce] := by decide

/-- Timers at their limits; a phase and a demand moved since the last ANNOUNCE, with the spacing timer below and at the
spacing time of 3, and with an ANNOUNCE in the list; a throttle step and its return, which move the HEADER demand. -/
theorem witness_TimersAndPromptTestQueueOneAnnounce :
    let moved := fun (n : Nat) (l : List OutFrame) => { push with line := { push.line with
      lastAnnounced := some ⟨2, ⟨0, 0, 0⟩⟩, spacingTimer := some n, outgoing := l } }
    let c := { push with det := { push.det with throttle := 1, clearTimer := some 50 } }
    let s := { push with line := { push.line with
      announceTimer := some 10, spacingTimer := some 3, promptRequest := true, outgoing := [.trip] } }
    OutgoingOrdered s ∧ s.line.takesRequests = true ∧ s.line.announceTimer = some 10 ∧ s.cfg.announcePeriod ≤ 10 ∧
    s.line.spacingTimer = some 3 ∧ (s.cfg.announcePeriod + 3) / 4 ≤ 3 ∧ s.line.promptRequest = true ∧
    push.line.promptRequest = false ∧
    2 ≠ push.seq.phase.code ∧ (moved 2 []).promptTest.line.promptRequest = true ∧
    (moved 3 []).promptTest.line.outgoing = [.announce] ∧ (moved 3 [.announce]).promptTest = moved 3 [.announce] ∧
    push.promptTest = push ∧ ((moved 3 []).enterPhase .hold).line.outgoing = [.announce] ∧
    c.det.clearTimer = some 50 ∧ 10 * c.cfg.clearTime ≤ 50 ∧ 0 < c.det.throttle := by decide

/-- A good and a bad check; an ANNOUNCE of 9 bytes, a kind 6 and an invalid source; a spoilt frame and one not received. -/
theorem witness_SpoiltFramesReachNoBlock :
    let bytes : List Byte := List.replicate 9 0
    idle.line.receives = true ∧ (good 2 5 bytes bytes).check = frameCheck 2 (5#5).toNat bytes ∧
    (good 2 5 bytes bytes).check ≠ frameCheck 2 (6#5).toNat bytes ∧ (5#5).toNat ≠ idle.loader.ownAddress ∧
    lengthOfKind (2#3).toNat bytes.length = false ∧ 6 ≤ (6#3).toNat ∧ validSource (17#5).toNat = false ∧
    ({ idle.line with track := .spoilt } : LineController).receives = true ∧
    ({ idle.line with track := .afterFrame } : LineController).receives = false ∧
    (sending .trip idle).line.receives = false ∧ (sending .trip idle).line.sending = true := by decide +kernel

theorem witness_ConflictSilencesTheStation :
    let silent := { push with line := { push.line with state := .silent } }
    Hears push ∧ push.seq.phase ≠ .offline ∧ (3#5).toNat = push.loader.ownAddress ∧ push.line.state ≠ .silent ∧
    push.trip.latched.contains .conflict = false ∧ Hears silent ∧ silent.seq.phase ≠ .offline := by decide

theorem witness_PeersReadWhatTheStationSends :
    let b : Fin 10 → Byte := fun i => push.announceBytes.getD i.val 0
    push.announceBytes = List.ofFn b ∧ (∀ p ∈ [Pool.supply, .ret, .header], push.demand p ≤ 65535) ∧
    push.ticket.store.length ≤ 4 ∧ push.loader.signature.getD 0 ≤ 65535 ∧
    push.trip.sidingSet.bytes = [0x00#8, 0x00#8] ∧ push.seq.phase = .push ∧ b 0 = 3#8 := by decide

/-- Ages of 30 and 50 units are the thresholds, 600 the forget time. -/
theorem witness_RecordsAgeAndAreForgotten :
    let s := { push with peers := [peer 9 .current 3 900, peer 25 .current 1 0] }
    [(Liveness.current, 30, 0), (.current, 29, 0), (.stale, 50, 0), (.stale, 49, 0), (.lapsed, 50, 600),
      (.lapsed, 50, 599)].all (fun x : Liveness × Nat × Nat =>
      let r : Peer := { peer 9 x.1 3 900 with age := x.2.1, lapsedTime := x.2.2 }
      let s : State := { push with peers := [r, peer 25 .current 1 0] }
      decide (((s.peers.map Peer.address).Nodup ∧ findPeer s.peers (9#5).toNat = some r) : Prop)) = true ∧
    s.cfg.staleCount * s.cfg.announcePeriod = 30 ∧ s.cfg.lapseCount * s.cfg.announcePeriod = 50 ∧
    10 * s.cfg.forgetTime = 600 := by decide

/-- A station's and an observer's frame; report payloads of 4 and of 15 bytes. -/
theorem witness_FramesRefreshTheirSource :
    Hears push ∧ (9#5).toNat ≠ push.loader.ownAddress ∧ validSource (16#5).toNat = true ∧
    validSource (24#5).toNat = true ∧ validSource (30#5).toNat = true ∧ 4 ≤ (List.replicate 4 (0#8)).length ∧
    (List.replicate 15 (0#8)).length ≤ 15 := by decide

theorem witness_WaterFillIsFair :
    let s := { push with peers := [peer 5 .current 3 2400, peer 7 .stale 3 900, peer 9 .lapsed 3 2000] }
    (∀ r ∈ s.peers, r.address ≠ s.loader.ownAddress) ∧ push.seq.phase = .push ∧ push.demand .supply = 2000 ∧
    push.demand .header = 12000 := by decide

theorem witness_GrantsFollowTheShares :
    push.seq.phase.draws .supply = true ∧ push.seq.phase.draws .ret = false ∧ push.seq.phase = .push ∧
    push.shareWork.share.grant.supply = 0 ∧ push.share.starvation = none ∧ idle.seq.phase ≠ .push := by decide

/-- A transfer with both arms and the ground lost and a sensor in "FAIL". -/
def bare : State := { push with input := { push.input with
  debounce := { contacts with liquidArm := settled false, vapourArm := settled false, groundOk := settled false }
  sensors := { push.input.sensors with z := ⟨.fail, 0, 0, 3⟩ } } }

/-- ESD reported where nothing is latched, where DRIFT is latched already, and where it is latched itself; VALVE. -/
theorem witness_ReportedCausesLatch :
    let once := tripped [.drift] [⟨9, .unknown⟩] push
    TripsAgree push ∧ TripsAgree bare ∧ TripsAgree once ∧ push.seq.phase ≠ .offline ∧ push.seq.phase ≠ .tripped ∧
    once.seq.phase = .tripped ∧ once.trip.outstanding = true ∧ push.trip.outstanding = false ∧
    Cause.esd ∈ latchable ∧ Cause.valve ∈ latchable ∧ Cause.esd ∉ push.trip.latched ∧
    Cause.drift ∈ once.trip.latched ∧ push.line.takesRequests = true ∧ push.armsUncoupled = false ∧
    push.line.outgoing.count .trip = 0 ∧ bare.armsUncoupled = true ∧ bare.ticket.current = some ticket ∧
    bare.supervisionReports = [.cause .ground, .cause .uncouple] ∧ push.supervisionReports = [] ∧
    bare.sensorReports = [.cause .sensor] ∧ push.sensorReports = [] ∧
    (push.takeReport (.cause .esd)).trip = ⟨[.esd], true, [⟨3, .known ⟨true, false, false, false⟩⟩]⟩ := by
  refine ⟨by decide, by decide, ?_⟩
  decide

theorem witness_RemoteTripsJoinTheList :
    let t := tripped [] [⟨9, .unknown⟩] push
    Hears push ∧ Hears t ∧ (9#5).toNat ≠ push.loader.ownAddress ∧ validSource (9#5).toNat = true ∧
    t.trip.list ≠ [] ∧ t.trip.list.any (fun e => decide (e.originator = 9)) = true ∧
    t.trip.list.any (fun e => decide (e.originator = 5)) = false ∧
    (tripped [.valve] [] push).trip.list = [] ∧ (tripped [.valve] [] push).seq.phase = .tripped ∧
    push.trip.list = [] ∧ push.seq.phase ≠ .tripped ∧ push.seq.phase ≠ .offline ∧ push.armsUncoupled = false ∧
    (0x80#8).getLsbD 7 = true ∧ (0x40#8).getLsbD 7 = false := by decide

theorem witness_ResetPressIsJudged :
    let u := { push with input := { push.input with debounce := { contacts with vapourArm := settled false } } }
    let pressed := { push with input := { push.input with debounce := { contacts with esd := settled true } } }
    [tripped [.esd] [] push, tripped [.esd] [] u, tripped [.esd, .conflict] [] pressed, tripped [.conflict] [] push,
      tripped [] [⟨9, .unknown⟩] push].all (fun s => decide (TripsAgree s ∧ s.seq.phase = .tripped)) = true ∧
    (tripped [.esd] [] u).ticketOpen = true ∧ (tripped [.esd] [] u).armsCoupled = false ∧
    (tripped [.esd] [] push).armsCoupled = true ∧
    (tripped [.esd, .conflict] [] pressed).input.debounce.esd.stable = .active ∧
    causeNumber .esd ≤ causeNumber .conflict ∧
    (tripped [] [⟨9, .unknown⟩] push).trip.list.filter (fun e => decide (e.originator ≠ 3)) = [⟨9, .unknown⟩] ∧
    (tripped [.esd] [] push).trip.list ≠ [] ∧
    (tripped [.esd] [] push).trip.list.filter (fun e => decide (e.originator ≠ 3)) = [] ∧
    (tripped [.esd] [] push).input.debounce.esd.stable ≠ .active ∧ push.line.takesRequests = true := by decide

theorem witness_SampleMetersTheOpenTicket :
    let s := { push with
      input := { push.input with liquidSample := 1 }, valve := { push.valve with lvCommand := .closed, lv := ⟨.closed, none⟩ } }
    s.ticket.current = some ticket ∧ 0 < s.input.liquidSample ∧ s.valve.lvCommand = .closed ∧
    s.valve.lv.state = .closed ∧ s.ticket.meterMarker = false ∧ idle.ticket.current = none ∧
    push.input.liquidSample = 0 := by decide

theorem witness_ObserversAskAndCollect :
    let s := { push with ticket := { push.ticket with store := [{ ticket with number := 41 }] } }
    Hears s ∧ (25#5).toNat ≠ s.loader.ownAddress ∧ validSource (25#5).toNat = true ∧
    24 ≤ (25#5).toNat ∧ (3#8).toNat = s.loader.ownAddress ∧ s.ticket.series = none ∧ s.line.state ≠ .silent ∧
    (s.ticket.current.toList ++ s.ticket.store).find? (fun x => decide (x.number = 42)) = some ticket ∧
    (7#16).toNat ∉ (s.ticket.current.toList ++ s.ticket.store).map Ticket.number := by decide

theorem witness_ReportPartsCarryTheTicket :
    let k := { ticket with
      notes := List.replicate 8 ⟨.trip, 86403, 4095⟩, delivered := 4294967295, identity := List.replicate 12 0x41,
      peak := 65535, openTime := 4294967295, closeTime := some 4294967295, finalThrottle := some 4,
      endReason := some .reset, station := 16 }
    let s := { push with ticket := { push.ticket with current := some k, series := some ⟨42, 8⟩ } }
    s.ticket.series = some ⟨42, 8⟩ ∧ s.ticket.find 42 = some k ∧ k.notes.length ≤ 8 ∧ k.identity.length ≤ 12 ∧
    k.delivered ≤ 4294967295 ∧ k.recovered ≤ 4294967295 ∧ k.station ≤ 16 ∧ k.peak ≤ 65535 ∧ k.openTime ≤ 4294967295 ∧
    k.closeTime.getD 0 ≤ 4294967295 ∧ s.det.throttle ≤ 4 ∧ k.finalThrottle.getD 0 ≤ 4 ∧
    (∀ n ∈ k.notes, n.value < 4096) ∧ ticket.finalThrottle = none ∧ ticket.closeTime = none ∧ k.notes[7]? = some ⟨.trip, 86403, 4095⟩ := by decide

theorem witness_invariants_kept_by_steps :
    Interlocked busy ∧ TripsAgree busy ∧ PeersKept busy ∧ OutgoingOrdered busy ∧ NumbersDiffer busy ∧ HoldKept busy ∧
    CheckInPhase busy ∧ PushQuiet busy ∧ (after (step busy)).seq.phase = .drain := by
  refine ⟨?_, ?_, ?_, ?_, ?_, ?_, ?_, ?_, ?_⟩ <;> decide

theorem witness_StepKeepsGrantBounds : GrantsBounded busy ∧ ∃ t, step busy = .next t := by
  refine ⟨⟨by decide, ?_⟩, ⟨_, rfl⟩⟩
  intro p
  cases p <;> decide

/-- A RESET press in "TRIPPED" leaves it, and a valid image leaves "OFFLINE". -/
theorem witness_OnlyTheirEventsLeaveStates :
    let t := tripped [.brk] [] push
    OfflineQuiet t ∧ t.seq.phase = .tripped ∧ (t.panelWork ⟨false, false, true, false⟩).1.seq.phase = .hold ∧
    OfflineQuiet reading ∧ reading.seq.phase = .offline ∧ (after (exec .rstn push)).line.state = .off ∧
    OfflineQuiet (holdTest 805 801) ∧ (holdTest 805 801).ticketOpen = false ∧
    (after (exec .checkTimerExpiry (holdTest 805 801))).ticketOpen = true := by decide

theorem witness_ConfigurationStandsUntilReset :
    OfflineQuiet push ∧ push.seq.phase ≠ .offline ∧ push.ticket.uptime ≤ 4294967295 ∧
    ∃ t, exec .conflict push = .next t := ⟨by decide, by decide, by decide, _, rfl⟩

theorem witness_TicketsAreNeverLost :
    TicketsAgree push ∧ push.ticket.current = some ticket ∧ ticket.delivered ≤ 4294967295 ∧
    (∀ source payload, Instr.rstn ≠ .frameDiscarded 5 source payload) ∧ ∃ t, exec .rstn push = .next t :=
  ⟨by decide, by decide, by decide, by nofun, _, rfl⟩

end Sys2Proof.Tests
end

section
/-!
PROOFS. The field inputs (chapter 1): analog counts and sensor records, debouncers, and the car identity line.
-/

namespace Sys2Proof.Machine

open Sys2Proof

/-! ## Analog counts (R2, R3) -/

/-- R2: an open loop. -/
theorem classifyCounts_openLoop (g : SensorGroup) {n : Nat} (h : n ≤ 736) : classifyCounts g n = .faulted :=
  if_pos h

/-- R2: under range. -/
theorem classifyCounts_underRange (g : SensorGroup) {n : Nat} (hlow : 737 ≤ n) (hhigh : n ≤ 818) :
    classifyCounts g n = .good g.lo := by
  rw [classifyCounts, if_neg (by omega), if_pos hhigh]

/-- R2: in range. -/
theorem classifyCounts_inRange (g : SensorGroup) {n : Nat} (hlow : 819 ≤ n) (hhigh : n ≤ 4094) :
    classifyCounts g n = .good (scaleCounts g n) := by
  rw [classifyCounts, if_neg (by omega), if_neg (by omega), if_pos hhigh]

/-- R2: over range. -/
theorem classifyCounts_overRange (g : SensorGroup) {n : Nat} (h : 4095 ≤ n) : classifyCounts g n = .faulted := by
  rw [classifyCounts, if_neg (by omega), if_neg (by omega), if_neg (by omega)]

/-- R3: counts clamped to the ends 819 and 4095 of the span. -/
def clampCounts (n : Nat) : Nat := max 819 (min n 4095)

theorem clampCounts_ge (n : Nat) : 819 ≤ clampCounts n := le_max_left _ _

theorem clampCounts_le (n : Nat) : clampCounts n ≤ 4095 := max_le (by decide) (min_le_right _ _)

/-- R3: the product of the scaling is never negative. -/
theorem scaleProduct_nonneg {width : Int} (hw : 0 ≤ width) (n : Nat) : 0 ≤ ((clampCounts n : Int) - 819) * width := by
  have hge := clampCounts_ge n
  exact mul_nonneg (by omega) hw

/-- R3: the product of the scaling is at most that of the full span of 3276 counts. -/
theorem scaleProduct_le {width : Int} (hw : 0 ≤ width) (n : Nat) :
    ((clampCounts n : Int) - 819) * width ≤ 3276 * width := by
  have hle := clampCounts_le n
  exact mul_le_mul_of_nonneg_right (by omega) hw

/-- R3: the model's division toward zero is a plain division, since its product is never negative. -/
theorem scaleCounts_eq (g : SensorGroup) (hg : g.lo ≤ g.hi) (n : Nat) :
    scaleCounts g n = g.lo + ((clampCounts n : Int) - 819) * (g.hi - g.lo) / 3276 := by
  have hcast : ((clampCounts n - 819 : Nat) : Int) = (clampCounts n : Int) - 819 :=
    Int.ofNat_sub (clampCounts_ge n)
  change g.lo + (((clampCounts n - 819 : Nat) : Int) * (g.hi - g.lo)).tdiv 3276 = _
  rw [hcast, Int.tdiv_eq_ediv_of_nonneg (scaleProduct_nonneg (by omega) n)]

/-- R3: the converted value lies between lo and hi. -/
theorem scaleCounts_bounds (g : SensorGroup) (hg : g.lo ≤ g.hi) (n : Nat) :
    g.lo ≤ scaleCounts g n ∧ scaleCounts g n ≤ g.hi := by
  have hnonneg := scaleProduct_nonneg (width := g.hi - g.lo) (by omega) n
  have hle := scaleProduct_le (width := g.hi - g.lo) (by omega) n
  rw [scaleCounts_eq g hg n]
  omega

/-! ## Sensor records (R4) -/

/-- R4: a good sample, whatever the record held. -/
theorem sensorStep_good {g : SensorGroup} {counts : BitVec 12} {v : Int} (r : Sensor)
    (h : classifyCounts g counts.toNat = .good v) : sensorStep g r counts = ⟨.good, v, v, 0⟩ := by
  rw [sensorStep, h]

/-- R4: a faulted sample, by the status that the record had. -/
theorem sensorStep_faulted {g : SensorGroup} {counts : BitVec 12} (r : Sensor)
    (h : classifyCounts g counts.toNat = .faulted) :
    (r.status = .good → sensorStep g r counts =
      ⟨if g.holdLimit = 1 then .fail else .hold, r.lastGood, r.lastGood, 1⟩) ∧
    (r.status = .hold → sensorStep g r counts =
      ⟨if g.holdLimit ≤ r.holdCount + 1 then .fail else .hold, r.lastGood, r.lastGood, r.holdCount + 1⟩) ∧
    (r.status = .fail → sensorStep g r counts = ⟨.fail, r.lastGood, r.lastGood, r.holdCount⟩) := by
  rw [sensorStep, h]
  refine ⟨?good, ?hold, ?fail⟩ <;> intro hs <;> rw [hs]

/-- Settles O11: the bands, the scaling and the sensor table, each by its own lemma. -/
theorem analogCountsMakeSensorRecords : Obligations.AnalogCountsMakeSensorRecords := by
  intro g r counts hlt hspan
  have hg : g.lo ≤ g.hi := hlt.le
  have hw : 0 ≤ g.hi - g.lo := by omega
  have hproduct : ((clampCounts counts.toNat : Int) - 819) * (g.hi - g.lo) ≤ 32760000 := by
    have hle := scaleProduct_le hw counts.toNat
    omega
  obtain ⟨hlo, hhi⟩ := scaleCounts_bounds g hg counts.toNat
  exact ⟨classifyCounts_openLoop g, classifyCounts_underRange g, classifyCounts_inRange g,
    fun h => classifyCounts_overRange g h.ge, scaleCounts_eq g hg _, scaleProduct_nonneg hw _, hproduct,
    hlo, hhi, fun _ => sensorStep_good r, sensorStep_faulted r, rfl, rfl⟩

/-! ## Debouncers (R9) -/

/-- R9: the last raw value is the one just sampled. -/
@[simp] theorem debounceStep_lastRaw (d : Debouncer) (raw : Bool) : (debounceStep d raw).lastRaw = some raw := rfl

/-- R9: an equal sample lengthens the run, up to 3. -/
theorem debounceStep_run_of_same {d : Debouncer} {raw : Bool} (h : d.lastRaw = some raw) :
    (debounceStep d raw).run = min 3 (d.run + 1) := if_pos h

/-- R9: another level begins a run of its own. -/
theorem debounceStep_run_of_change {d : Debouncer} {raw : Bool} (h : d.lastRaw ≠ some raw) :
    (debounceStep d raw).run = 1 := if_neg h

theorem debounceStep_run_pos (d : Debouncer) (raw : Bool) : 1 ≤ (debounceStep d raw).run := by
  by_cases h : d.lastRaw = some raw
  · rw [debounceStep_run_of_same h]; omega
  · rw [debounceStep_run_of_change h]

/-- R9: a run of three settles the debouncer at the level sampled. -/
theorem debounceStep_stable_of_run {d : Debouncer} {raw : Bool} (h : (debounceStep d raw).run = 3) :
    (debounceStep d raw).stable = if raw then .active else .inactive := if_pos h

/-- R9: a shorter run leaves the stable state. -/
theorem debounceStep_stable_of_run_ne {d : Debouncer} {raw : Bool} (h : (debounceStep d raw).run ≠ 3) :
    (debounceStep d raw).stable = d.stable := if_neg h

/-- R9: three equal samples settle a debouncer, whatever it held before. -/
theorem debounceStep_three (d : Debouncer) (raw : Bool) :
    (debounceStep (debounceStep (debounceStep d raw) raw) raw).stable = if raw then .active else .inactive := by
  have hfirst := debounceStep_run_pos d raw
  have hsecond := debounceStep_run_of_same (debounceStep_lastRaw d raw)
  have hthird := debounceStep_run_of_same (debounceStep_lastRaw (debounceStep d raw) raw)
  exact debounceStep_stable_of_run (by omega)

/-- R9: a new level that lasts two samples moves nothing. -/
theorem debounceStep_two_of_change {d : Debouncer} {raw : Bool} (h : d.lastRaw ≠ some raw) :
    (debounceStep (debounceStep d raw) raw).stable = d.stable := by
  have hfirst : (debounceStep d raw).run = 1 := debounceStep_run_of_change h
  have hsecond := debounceStep_run_of_same (debounceStep_lastRaw d raw)
  calc (debounceStep (debounceStep d raw) raw).stable
      = (debounceStep d raw).stable := debounceStep_stable_of_run_ne (by omega)
    _ = d.stable := debounceStep_stable_of_run_ne (by omega)

/-- R9: "UNSETTLED" reads as "INACTIVE". -/
theorem Debouncer.isActive_of_unsettled {d : Debouncer} (h : d.stable = .unsettled) : d.isActive = false := by
  rw [Debouncer.isActive, h]; rfl

/-- R9, R10: a first settling is no press. -/
theorem isPress_of_unsettled {d : Debouncer} (h : d.stable = .unsettled) (after : Debouncer) :
    isPress d after = false := by
  rw [isPress, h]; rfl

/-- Settles O13: the run decides each clause. -/
theorem debouncerSettlesAtThreeSamples : Obligations.DebouncerSettlesAtThreeSamples := fun d raw =>
  ⟨debounceStep_run_of_same, debounceStep_run_of_change, debounceStep_lastRaw d raw, debounceStep_stable_of_run,
    debounceStep_stable_of_run_ne, debounceStep_three d raw, debounceStep_two_of_change,
    fun h => ⟨Debouncer.isActive_of_unsettled h, isPress_of_unsettled h _⟩⟩

/-! ## The car identity line (R13) -/

theorem isPrintable_iff (code : Byte) : isPrintable code = true ↔ 0x20 ≤ code.toNat ∧ code.toNat ≤ 0x7E := by
  simp [isPrintable]

/-- R12, R13: with the receiver accepting, a character reaches the line assembly and nothing else. -/
theorem exec_characterArrival_accepting {s : State} (h : s.input.receiver = .accepting) (code : Byte) (good : Bool) :
    exec (.characterArrival code good) s = .next { s with input := s.input.character code good } := by
  change execCharacterArrival code good s = _
  rw [execCharacterArrival, State.onInput, if_pos h]

namespace InputUnit

variable (i : InputUnit)

/-- R13: a framing error. -/
theorem character_badFraming (code : Byte) : i.character code false = { i with discard := true } := rfl

/-- R13: a printable character is kept, is one too many, or falls in a line that is discarded. -/
theorem character_printable {code : Byte} (h : isPrintable code = true) : i.character code true =
    if i.discard then i
    else if i.buffer.length < 12 then { i with buffer := i.buffer ++ [code] } else { i with discard := true } := by
  rw [character, if_neg (by decide), if_pos h]

/-- R13: LF. -/
theorem character_lf : i.character 0x0A#8 true = i := rfl

/-- R13: CR ends a line that is discarded, an empty one, or one that the holder takes. -/
theorem character_cr : i.character 0x0D#8 true =
    if i.discard then { i with buffer := [], discard := false }
    else if i.buffer = [] then i else { i with identity := i.buffer, buffer := [] } := rfl

/-- R13: any other code. -/
theorem character_other {code : Byte} (h : isPrintable code = false) (hlf : code ≠ 0x0A#8) (hcr : code ≠ 0x0D#8) :
    i.character code true = { i with discard := true } := by
  rw [character, if_neg (by decide), if_neg (by simp [h]), if_neg hlf, if_neg hcr]

end InputUnit

/-- Settles O15: row by row of the table of R13. -/
theorem characterArrivalFollowsItsTable : Obligations.CharacterArrivalFollowsItsTable := by
  intro s code haccepting
  have hexec := exec_characterArrival_accepting haccepting
  refine ⟨?badFraming, fun hlow hhigh => ?printable, ?lf, ?crLine, ?crEmpty, ?crDiscard, ?other⟩
  case badFraming => rw [hexec, InputUnit.character_badFraming]
  case printable =>
    have hcode : isPrintable code = true := (isPrintable_iff code).mpr ⟨hlow, hhigh⟩
    rw [hexec, InputUnit.character_printable _ hcode]
    refine ⟨fun hkeep hroom => ?_, fun hkeep hfull => ?_, fun hdiscard => ?_⟩
    · simp [hkeep, hroom]
    · simp [hkeep, Nat.not_lt.mpr hfull]
    · simp [hdiscard]
  case lf => rw [hexec, InputUnit.character_lf]
  case crLine =>
    intro hkeep hline
    simp [hexec, InputUnit.character_cr, hkeep, hline]
  case crEmpty =>
    intro hkeep hempty
    simp [hexec, InputUnit.character_cr, hkeep, hempty]
  case crDiscard =>
    intro hdiscard
    simp [hexec, InputUnit.character_cr, hdiscard]
  case other =>
    intro hrange hlf hcr
    have hcode : isPrintable code = false := by
      rw [Bool.eq_false_iff, ne_eq, isPrintable_iff]
      omega
    rw [hexec, InputUnit.character_other _ hcode hlf hcr]

end Sys2Proof.Machine
end

section
/-!
PROOFS. The transfer detectors (chapter 4): the saturation table.
-/

namespace Sys2Proof.Machine

open Sys2Proof

/-! ## The saturation table (R71) -/

/-- R71: at or below −40 °C the table gives its first point. -/
theorem saturationAt_of_le (table : List Nat) {tLiq : Int} (h : tLiq ≤ -400) :
    saturationAt table tLiq = table.getD 0 0 := if_pos h

/-- R71: at or above +60 °C the table gives its last point. -/
theorem saturationAt_of_ge (table : List Nat) {tLiq : Int} (h : 600 ≤ tLiq) :
    saturationAt table tLiq = table.getD 10 0 := by
  rw [saturationAt, if_neg (by omega), if_pos h]

/-- R71: the interpolation between the points P_i and P_(i+1). -/
theorem saturationAt_between (table : List Nat) {tLiq : Int} (hlow : -399 ≤ tLiq) (hhigh : tLiq ≤ 599) {u : Nat}
    (hu : (u : Int) = tLiq + 400) :
    saturationAt table tLiq = table.getD (u / 100) 0 +
      (table.getD (u / 100 + 1) 0 - table.getD (u / 100) 0) * (u - 100 * (u / 100)) / 100 := by
  have hnat : (tLiq + 400).toNat = u := by omega
  rw [saturationAt, if_neg (by omega), if_neg (by omega), hnat]

/-- R71: a point of the table is within the range of its elements. -/
theorem saturationPoint_le {table : List Nat} {bound i : Nat} (hbound : ∀ p ∈ table, p ≤ bound) (hi : i < table.length) :
    table.getD i 0 ≤ bound := by
  rw [List.getD_eq_getElem _ _ hi]
  exact hbound _ (List.getElem_mem hi)

/-- R71, R186: the next point of a table that passed the order check is no lower. -/
theorem saturationPoint_le_next {table : List Nat} {i : Nat} (horder : table.Pairwise (fun a b => a ≤ b))
    (hi : i + 1 < table.length) : table.getD i 0 ≤ table.getD (i + 1) 0 := by
  rw [List.getD_eq_getElem _ _ (by omega), List.getD_eq_getElem _ _ hi]
  exact horder.rel_get_of_lt (a := ⟨i, by omega⟩) (b := ⟨i + 1, hi⟩) (Nat.lt_succ_self i)

/-- R71: a value interpolated in hundredths of the rise stays at or below the upper point. -/
theorem interpolate_le {lo hi frac : Nat} (hrise : lo ≤ hi) (hfrac : frac ≤ 100) :
    lo + (hi - lo) * frac / 100 ≤ hi := by
  have hshare : (hi - lo) * frac / 100 ≤ hi - lo :=
    Nat.div_le_of_le_mul (by rw [Nat.mul_comm 100]; exact Nat.mul_le_mul_left _ hfrac)
  omega

section

variable {table : List Nat} {tLiq : Int}

/-- R71: between the ends the pressure lies between its two neighbouring points. -/
theorem saturationAt_between_bounds (hlen : table.length = 11) (horder : table.Pairwise (fun a b => a ≤ b))
    (hlow : -399 ≤ tLiq) (hhigh : tLiq ≤ 599) {u : Nat} (hu : (u : Int) = tLiq + 400) :
    table.getD (u / 100) 0 ≤ saturationAt table tLiq ∧ saturationAt table tLiq ≤ table.getD (u / 100 + 1) 0 := by
  rw [saturationAt_between table hlow hhigh hu]
  exact ⟨Nat.le_add_right _ _, interpolate_le (saturationPoint_le_next horder (by omega)) (by omega)⟩

/-- R71: the pressure is within the range of the table's elements, at every temperature. -/
theorem saturationAt_le {bound : Nat} (hlen : table.length = 11) (hbound : ∀ p ∈ table, p ≤ bound)
    (horder : table.Pairwise (fun a b => a ≤ b)) (tLiq : Int) : saturationAt table tLiq ≤ bound := by
  rcases le_or_gt tLiq (-400) with hbelow | hlow
  · rw [saturationAt_of_le table hbelow]
    exact saturationPoint_le hbound (by omega)
  rcases le_or_gt 600 tLiq with habove | hhigh
  · rw [saturationAt_of_ge table habove]
    exact saturationPoint_le hbound (by omega)
  · obtain ⟨u, hu⟩ := Int.eq_ofNat_of_zero_le (a := tLiq + 400) (by omega)
    have hnext := (saturationAt_between_bounds hlen horder (by omega) (by omega) hu.symm).2
    exact hnext.trans (saturationPoint_le hbound (by omega))

end

/-- R71: the product of the interpolation, for a table within 0 to 6000 kPa and a part of less than 100, fits in 32
bits with room to spare. -/
theorem interpolationProduct_le {lo hi frac : Nat} (hhi : hi ≤ 6000) (hfrac : frac ≤ 99) :
    (hi - lo) * frac ≤ 594000 :=
  Nat.mul_le_mul ((Nat.sub_le hi lo).trans hhi) hfrac

/-- Settles O28: the two ends, the interpolation and its bounds, each by its own lemma. -/
theorem saturationPressureFollowsTheTable : Obligations.SaturationPressureFollowsTheTable := by
  intro table tLiq hlen hbound horder
  refine ⟨saturationAt_of_le table, saturationAt_of_ge table, ?between, saturationAt_le hlen hbound horder tLiq⟩
  case between =>
    rintro hlow hhigh u i frac hu rfl rfl
    have hnext : u / 100 + 1 < table.length := by omega
    obtain ⟨hlower, hupper⟩ := saturationAt_between_bounds hlen horder hlow hhigh hu
    exact ⟨saturationAt_between table hlow hhigh hu, saturationPoint_le_next horder hnext,
      interpolationProduct_le (saturationPoint_le hbound hnext) (by omega), hlower, hupper⟩

end Sys2Proof.Machine
end

section
/-!
PROOFS. Pool sharing (chapter 8): the grants of a share computation, and starvation.
-/

namespace Sys2Proof.Machine

open Sys2Proof

/-! ## Grants (R141, R142) -/

@[simp] theorem Pools.get_of {α : Type} (f : Pool → α) (p : Pool) : (Pools.of f).get p = f p := by
  cases p <;> rfl

theorem State.onShare_untouched (s : State) (f : ShareUnit → ShareUnit) : Untouched [.share] s (s.onShare f) := by
  intro b hb
  cases b <;> simp_all [Block.same]

section

variable {s : State} {p : Pool} (share : Nat)

/-- R143: a pool that the phase does not draw on has no grant. -/
theorem State.grantOf_of_not_draws (hdraws : s.seq.phase.draws p = false) : s.grantOf p share = 0 := by
  simp [State.grantOf, hdraws]

/-- R141: the grant in "JOINED". -/
theorem State.grantOf_of_joined (hdraws : s.seq.phase.draws p = true) (hisland : s.share.island = .joined) :
    s.grantOf p share = orNothing (s.cfg.minGrant.get p) (min share (s.cfg.spotRating.get p)) := by
  simp [State.grantOf, hdraws, hisland]

/-- R142: the grant in "ISLAND", whatever the own share. -/
theorem State.grantOf_of_island (hdraws : s.seq.phase.draws p = true) (hisland : s.share.island = .island) :
    s.grantOf p share = orNothing (s.cfg.minGrant.get p)
      (min (min (s.demand p) (s.cfg.allowance.get p)) (s.cfg.spotRating.get p)) := by
  simp [State.grantOf, hdraws, hisland, min_assoc]

end

/-! ## Starvation (R144) -/

section

variable {s : State}

theorem State.starved_iff : s.starved = true ↔ s.share.grant.supply = 0 ∨ s.share.grant.header = 0 := by
  simp [State.starved]

/-- R144: outside "PUSH" nothing is judged. -/
theorem State.judgeStarvation_of_not_push (hphase : s.seq.phase ≠ .push) : s.judgeStarvation = s :=
  if_neg hphase

/-- R144: with both grants above 0 the starvation timer is idle. -/
theorem State.judgeStarvation_of_fed (hphase : s.seq.phase = .push) (hsupply : s.share.grant.supply ≠ 0)
    (hheader : s.share.grant.header ≠ 0) :
    s.judgeStarvation = s.onShare (fun u => { u with starvation := none }) := by
  have hfed : ¬ s.starved = true := fun h => (State.starved_iff.mp h).elim hsupply hheader
  rw [State.judgeStarvation, if_pos hphase, if_neg hfed]

/-- R144: a starvation timer that counts already goes on, without a second note. -/
theorem State.judgeStarvation_of_counting (hphase : s.seq.phase = .push)
    (hstarved : s.share.grant.supply = 0 ∨ s.share.grant.header = 0) (hcounting : s.share.starvation.isSome = true) :
    s.judgeStarvation = s := by
  rw [State.judgeStarvation, if_pos hphase, if_pos (State.starved_iff.mpr hstarved), if_pos hcounting]

/-- R144: an idle starvation timer starts, with note STARVED. -/
theorem State.judgeStarvation_of_idle (hphase : s.seq.phase = .push)
    (hstarved : s.share.grant.supply = 0 ∨ s.share.grant.header = 0) (hidle : s.share.starvation = none) :
    s.judgeStarvation = (s.onShare (fun u => { u with starvation := some 0 })).note .starved s.starvedValue := by
  rw [State.judgeStarvation, if_pos hphase, if_pos (State.starved_iff.mpr hstarved), if_neg (by simp [hidle])]

end

/-- All that the judgement of starvation can do: nothing, the timer stopped, or the timer started with its note. -/
theorem State.judgeStarvation_cases (s : State) :
    s.judgeStarvation = s ∨
    s.judgeStarvation = s.onShare (fun u => { u with starvation := none }) ∨
    s.judgeStarvation = (s.onShare (fun u => { u with starvation := some 0 })).note .starved s.starvedValue := by
  rw [State.judgeStarvation]
  split_ifs
  · exact .inl rfl
  · exact .inr (.inr rfl)
  · exact .inr (.inl rfl)
  · exact .inl rfl

theorem State.judgeStarvation_untouched (s : State) : Untouched [.share, .ticket] s s.judgeStarvation := by
  rcases s.judgeStarvation_cases with h | h | h <;> rw [h]
  · exact Untouched.refl _ s
  · exact (s.onShare_untouched _).weaken (by simp)
  · exact ((s.onShare_untouched _).weaken (by simp)).trans ((State.note_untouched _ _ _).weaken (by simp))

/-- The judgement writes the starvation timer alone of the share unit. -/
theorem State.judgeStarvation_share (s : State) :
    s.judgeStarvation.share = { s.share with starvation := s.judgeStarvation.share.starvation } := by
  rcases s.judgeStarvation_cases with h | h | h <;> rw [h] <;> rfl

/-! ## The share computation (R133) -/

section

variable (s : State)

theorem State.computeShares_share : s.computeShares.share = { s.share with
    share := Pools.of s.ownShare
    grant := Pools.of (fun p => s.grantOf p (s.ownShare p)) } := rfl

theorem State.computeShares_untouched : Untouched [.share] s s.computeShares := s.onShare_untouched _

theorem State.shareWork_untouched : Untouched [.share, .ticket] s s.shareWork :=
  (s.computeShares_untouched.weaken (by simp)).trans s.computeShares.judgeStarvation_untouched

/-- R133: the share unit after a share computation, up to its starvation timer. -/
theorem State.shareWork_share : s.shareWork.share = { s.share with
    share := Pools.of s.ownShare
    grant := Pools.of (fun p => s.grantOf p (s.ownShare p))
    starvation := s.shareWork.share.starvation } :=
  s.computeShares.judgeStarvation_share

/-- R144: starvation is judged on the grants that the computation leaves. -/
theorem State.shareWork_grant : s.shareWork.share.grant = s.computeShares.share.grant := by
  rw [s.shareWork_share, s.computeShares_share]

/-- R133, R141, R142: the share and the grant of each pool, by the phase and the island state. -/
theorem State.shareWork_get (p : Pool) :
    s.shareWork.share.share.get p = s.ownShare p ∧
    s.shareWork.share.grant.get p = s.grantOf p (s.ownShare p) := by
  rw [s.shareWork_share]
  exact ⟨Pools.get_of _ p, Pools.get_of _ p⟩

end

/-- Settles O44: the shares and grants by the cases of `grantOf`, starvation by those of `judgeStarvation`. -/
theorem grantsFollowTheShares : Obligations.GrantsFollowTheShares := by
  intro s
  have hkept := s.shareWork_share
  refine ⟨s.shareWork, rfl, s.shareWork_untouched, by rw [hkept], by rw [hkept], by rw [hkept], ?pools, ?other, ?push⟩
  case pools =>
    intro p
    obtain ⟨hshare, hgrant⟩ := s.shareWork_get p
    rw [hgrant]
    refine ⟨hshare, State.grantOf_of_not_draws _, fun hdraws => ?_⟩
    cases hisland : s.share.island with
    | joined => exact State.grantOf_of_joined _ hdraws hisland
    | island => exact State.grantOf_of_island _ hdraws hisland
  case other =>
    intro hphase
    have hwork : s.shareWork = s.computeShares := State.judgeStarvation_of_not_push hphase
    rw [hwork]
    exact ⟨rfl, rfl⟩
  case push =>
    intro hphase
    have hpush : s.computeShares.seq.phase = .push := hphase
    rw [s.shareWork_grant]
    refine ⟨fun hsupply hheader => ?fed, fun hstarved => ⟨fun hcounting => ?counting, fun hidle => ?idle⟩⟩
    case fed =>
      rw [State.shareWork, State.judgeStarvation_of_fed hpush hsupply hheader]
      exact ⟨rfl, rfl⟩
    case counting =>
      rw [State.shareWork, State.judgeStarvation_of_counting hpush hstarved hcounting]
      exact ⟨rfl, rfl⟩
    case idle =>
      rw [State.shareWork, State.judgeStarvation_of_idle hpush hstarved hidle]
      exact ⟨rfl, rfl, rfl⟩

end Sys2Proof.Machine
end


section
/-!
PROOFS. What a command can do to the part, said once. A command makes a chain of moves (`Move`), each the work of one block
or one phase change under its condition; each invariant of Safety.lean and each rule of the whole part is then shown
move by move. Beside the moves stand the parts of the invariants that belong to one block.
-/

namespace Sys2Proof.Machine

open Sys2Proof

/-! ## What a block's own rules ask of it -/

/-- R170, R173: how an open ticket may change: its number, station, identity and open time stand, its masses and its peak
never fall, and no note leaves it. -/
structure Ticket.Grows (k m : Ticket) : Prop where
  number : m.number = k.number := by rfl
  station : m.station = k.station := by rfl
  identity : m.identity = k.identity := by rfl
  openTime : m.openTime = k.openTime := by rfl
  delivered : k.delivered ≤ 4294967295 → k.delivered ≤ m.delivered ∧ m.delivered ≤ 4294967295 := by exact fun h => ⟨le_rfl, h⟩
  recovered : k.recovered ≤ 4294967295 → k.recovered ≤ m.recovered ∧ m.recovered ≤ 4294967295 := by exact fun h => ⟨le_rfl, h⟩
  peak : k.peak ≤ m.peak := by exact le_rfl
  notes : k.notes <+: m.notes := by exact List.prefix_rfl
  overflow : k.overflow = true → m.overflow = true := by exact id

theorem Ticket.Grows.refl (k : Ticket) : k.Grows k := {}

theorem Ticket.Grows.trans {k m n : Ticket} (h : k.Grows m) (g : m.Grows n) : k.Grows n where
  number := g.number.trans h.number
  station := g.station.trans h.station
  identity := g.identity.trans h.identity
  openTime := g.openTime.trans h.openTime
  delivered hk := ⟨(h.delivered hk).1.trans (g.delivered (h.delivered hk).2).1, (g.delivered (h.delivered hk).2).2⟩
  recovered hk := ⟨(h.recovered hk).1.trans (g.recovered (h.recovered hk).2).1, (g.recovered (h.recovered hk).2).2⟩
  peak := h.peak.trans g.peak
  notes := h.notes.trans g.notes
  overflow hk := g.overflow (h.overflow hk)

/-- R173: a note only adds to the ticket. -/
theorem Ticket.grows_addNote (n : Note) (k : Ticket) : k.Grows (k.addNote n) := by
  unfold Ticket.addNote
  split
  · exact { notes := List.prefix_append _ _ }
  · exact { overflow := fun _ => rfl }

/-- R170: metering only adds to the ticket. -/
theorem Ticket.grows_meter (c : Settings) (i : InputUnit) (k : Ticket) : k.Grows (k.meter c i) where
  delivered h := ⟨le_min h (Nat.le_add_right _ _), min_le_left _ _⟩
  recovered h := ⟨le_min h (Nat.le_add_right _ _), min_le_left _ _⟩
  peak := le_max_left _ _

/-- The open tickets before and after a change that opens and closes none. -/
abbrev OpenGrows : Option Ticket → Option Ticket → Prop := Option.Rel Ticket.Grows

theorem OpenGrows.refl (o : Option Ticket) : OpenGrows o o := by
  cases o
  · exact .none
  · exact .some (.refl _)

theorem OpenGrows.map (f : Ticket → Ticket) (hf : ∀ k, Ticket.Grows k (f k)) (o : Option Ticket) : OpenGrows o (o.map f) := by
  cases o
  · exact .none
  · exact .some (hf _)

theorem OpenGrows.trans {a b d : Option Ticket} (h : OpenGrows a b) (g : OpenGrows b d) : OpenGrows a d := by
  cases h with
  | none => exact g
  | some h => cases g with
    | some g => exact .some (h.trans g)

theorem OpenGrows.isSome {a b : Option Ticket} (h : OpenGrows a b) : b.isSome = a.isSome := by
  cases h <;> rfl

theorem OpenGrows.numbers {a b : Option Ticket} (h : OpenGrows a b) :
    b.toList.map Ticket.number = a.toList.map Ticket.number := by
  cases h with
  | none => rfl
  | some h => simp [h.number]

/-- What a change of the ticket unit keeps that opens, closes and collects no ticket. -/
structure TicketUnit.Kept (u v : TicketUnit) : Prop where
  store : v.store = u.store := by rfl
  nextNumber : v.nextNumber = u.nextNumber := by rfl
  uptime : v.uptime = u.uptime := by rfl
  series : v.series = u.series := by rfl
  current : OpenGrows u.current v.current := by exact OpenGrows.refl _

theorem TicketUnit.Kept.refl (u : TicketUnit) : u.Kept u := {}

/-- R174: the ticket unit in a phase: a ticket is open in its phases, and the store has room for it. -/
def TicketUnit.Fits (p : Phase) (u : TicketUnit) : Prop :=
  (p.hasTicket = true → u.current.isSome = true) ∧
  (u.current.isSome = true → p.hasTicket = true ∨ p = .tripped) ∧
  u.store.length ≤ 4 ∧
  (p = .check ∨ u.current.isSome = true → u.store.length ≤ 3)

theorem ticketsAgree_iff (s : State) : TicketsAgree s ↔ OfflineQuiet s ∧ s.ticket.Fits s.seq.phase := Iff.rfl

/-- R169: the numbers of the ticket unit. -/
def TicketUnit.Numbered (u : TicketUnit) : Prop :=
  u.numbers.Nodup ∧ (∀ n ∈ u.numbers, 1 ≤ n ∧ n ≤ 65535) ∧ 1 ≤ u.nextNumber ∧ u.nextNumber ≤ 65535

theorem numbersDiffer_iff (s : State) : NumbersDiffer s ↔ TicketsAgree s ∧ s.ticket.Numbered := Iff.rfl

/-- R174: the ticket unit before and after a change that opens none and collects none: the open ticket grows, or closes
into the store. -/
structure TicketFlow (u v : TicketUnit) : Prop where
  uptime : v.uptime = u.uptime
  cases : (v.store = u.store ∧ OpenGrows u.current v.current) ∨
    ∃ k m, u.current = some k ∧ k.Grows m ∧ v.current = none ∧ v.store = u.store ++ [m] ∧
      m.closeTime = some u.uptime ∧ m.finalThrottle.isSome = true ∧ m.endReason.isSome = true

theorem TicketFlow.refl (u : TicketUnit) : TicketFlow u u := ⟨rfl, .inl ⟨rfl, .refl _⟩⟩

theorem TicketUnit.Kept.flow {u v : TicketUnit} (h : u.Kept v) : TicketFlow u v := ⟨h.uptime, .inl ⟨h.store, h.current⟩⟩

theorem TicketFlow.trans {u v w : TicketUnit} (h : TicketFlow u v) (g : TicketFlow v w) : TicketFlow u w := by
  refine ⟨g.uptime.trans h.uptime, ?_⟩
  rcases h.cases with ⟨hstore, hcur⟩ | ⟨k, m, hk, hg, hnone, hstore, htime, hend⟩
  · rcases g.cases with ⟨gstore, gcur⟩ | ⟨k, m, hk, hg, hnone, gstore, htime, hend⟩
    · exact .inl ⟨gstore.trans hstore, hcur.trans gcur⟩
    · rw [hk] at hcur
      cases hcur' : u.current with
      | none => rw [hcur'] at hcur; cases hcur
      | some j =>
        rw [hcur'] at hcur
        cases hcur with
        | some hj => exact .inr ⟨j, m, rfl, hj.trans hg, hnone, by rw [gstore, hstore], by rw [htime, h.uptime], hend⟩
  · rcases g.cases with ⟨gstore, gcur⟩ | ⟨j, _, hj, _⟩
    · rw [hnone] at gcur
      refine .inr ⟨k, m, hk, hg, ?_, gstore.trans hstore, htime, hend⟩
      cases hw : w.current with
      | none => rfl
      | some j => rw [hw] at gcur; cases gcur
    · rw [hnone] at hj; cases hj

/-- R65, R145: no liquid-out detection and no starvation is under way. -/
def NothingDetected (s : State) : Prop :=
  s.det.stage = .counting ∧ s.det.lowCount = 0 ∧ s.det.confirmTimer = none ∧ s.share.starvation = none

/-- R33, R37: hold reason and held phase in a phase. -/
def Sequence.HoldFits (p : Phase) (ticketOpen : Bool) (q : Sequence) : Prop :=
  (p = .hold ↔ q.reason.isSome = true) ∧ (p = .hold → q.held.isSome = true) ∧
  (p = .tripped → ticketOpen = true → q.held.isSome = true)

theorem holdKept_iff (s : State) : HoldKept s ↔ TicketsAgree s ∧ s.seq.HoldFits s.seq.phase s.ticketOpen := Iff.rfl

/-- R154, R156, R158: the trip unit of the station with this address agrees in itself. -/
def TripUnit.Agrees (own : Nat) (u : TripUnit) : Prop :=
  isStation own = true ∧
  u.latched = latchable.filter (fun c => u.latched.contains c) ∧
  (u.list.map TripEntry.originator).Nodup ∧
  (∀ e ∈ u.list, validSource e.originator = true) ∧
  (u.outstanding = u.latched.any isSiding) ∧
  (u.list.filter (fun e => e.originator == own) = if u.outstanding then [⟨own, .known u.sidingSet⟩] else [])

theorem tripsAgree_iff (s : State) : TripsAgree s ↔ OfflineQuiet s ∧ s.trip.Agrees s.loader.ownAddress ∧
    (s.trip.tripped = true → s.seq.phase = .tripped) := by
  unfold TripUnit.Agrees
  tauto

/-- R109, R110, R108, R116: the line controller's list and frame in flight, with the pending series. -/
def LineController.Ordered (series : Option Series) (l : LineController) : Prop :=
  l.outgoing.Pairwise (fun a b => a.place < b.place) ∧
  ¬ (OutFrame.trip ∈ l.outgoing ∧ OutFrame.clear ∈ l.outgoing) ∧
  (l.seriesWaits = true → series.isSome = true) ∧
  (l.takesRequests = false → l.outgoing = [] ∧ l.inFlight = none) ∧
  (l.inFlight.isSome = l.sending) ∧
  (∀ i ∈ l.inFlight, i.removed = false → i.frame ∈ l.outgoing) ∧
  (∀ i ∈ l.inFlight, i.removed = true → i.frame = .trip ∨ i.frame = .clear)

theorem outgoingOrdered_iff (s : State) : OutgoingOrdered s ↔ OfflineQuiet s ∧ s.line.Ordered s.ticket.series := Iff.rfl

/-- R119, R120, R183: the records that the station with this address may hold. -/
def PeersFit (own : Nat) (ps : List Peer) : Prop :=
  (ps.map Peer.address).Nodup ∧ ∀ p ∈ ps, p.address ≠ own ∧ validSource p.address = true

theorem peersKept_iff (s : State) : PeersKept s ↔
    OfflineQuiet s ∧ isStation s.loader.ownAddress = true ∧ PeersFit s.loader.ownAddress s.peers := Iff.rfl

/-- R143: the share unit's grants in a phase. -/
def ShareUnit.Bounded (c : Settings) (phase : Phase) (u : ShareUnit) : Prop :=
  ∀ p : Pool,
    (phase.draws p = false → u.grant.get p = 0) ∧
    (u.island = .joined → u.grant.get p ≤ u.share.get p) ∧
    (u.island = .island → u.grant.get p ≤ c.allowance.get p) ∧
    u.grant.get p ≤ c.spotRating.get p

theorem grantsBounded_iff (s : State) : GrantsBounded s ↔ OfflineQuiet s ∧ s.share.Bounded s.cfg s.seq.phase := Iff.rfl

/-- The part is released, by its phase or by its line controller; the two agree where the part is `OfflineQuiet`. -/
def State.awake (s : State) : Prop := s.seq.phase ≠ .offline ∨ s.line.state ≠ .off

theorem OfflineQuiet.phase_ne {s : State} (h : OfflineQuiet s) (ha : s.awake) : s.seq.phase ≠ .offline :=
  fun hp => ha.elim (fun k => k hp) (fun k => k (h.2.1 hp).1)

/-! ## Moves -/

/-- A move that leaves all that the invariants read, but for timers, notes, metering and the ageing of records. -/
structure Calm (s t : State) : Prop where
  resetting : t.resetting = s.resetting := by rfl
  loader : t.loader = { s.loader with port := t.loader.port } := by rfl
  phase : t.seq.phase = s.seq.phase := by rfl
  held : t.seq.held = s.seq.held := by rfl
  reason : t.seq.reason = s.seq.reason := by rfl
  drainStep : t.seq.drainStep = s.seq.drainStep := by rfl
  closeStep : t.seq.closeStep = s.seq.closeStep := by rfl
  check : t.check.step = .inactive ↔ s.check.step = .inactive := by exact Iff.rfl
  quiet : s.seq.phase ≠ .push → NothingDetected s → NothingDetected t := by exact fun _ h => h
  lvCommand : t.valve.lvCommand = s.valve.lvCommand := by rfl
  bvCommand : t.valve.bvCommand = s.valve.bvCommand := by rfl
  svTarget : t.valve.svTarget = s.valve.svTarget := by rfl
  rvTarget : t.valve.rvTarget = s.valve.rvTarget := by rfl
  svOpening : t.valve.svOpening = s.valve.svOpening := by rfl
  rvOpening : t.valve.rvOpening = s.valve.rvOpening := by rfl
  lineState : t.line.state = s.line.state := by rfl
  outgoing : t.line.outgoing = s.line.outgoing := by rfl
  inFlight : t.line.inFlight = s.line.inFlight := by rfl
  peers : (t.peers.map Peer.address).Sublist (s.peers.map Peer.address) := by exact List.Sublist.refl _
  share : t.share = { s.share with rings := t.share.rings, faultMarker := t.share.faultMarker,
                                   starvation := t.share.starvation } := by rfl
  trip : t.trip = s.trip := by rfl
  ticket : s.ticket.Kept t.ticket := by exact TicketUnit.Kept.refl _

/-- What stands ready for the phase change `p`: `r` is `s` with its steps, trips, check and tickets set for it. -/
structure Ready (c : Instr) (s r : State) (p : Phase) : Prop where
  resetting : r.resetting = s.resetting := by rfl
  loader : r.loader = s.loader := by rfl
  peers : r.peers = s.peers := by rfl
  line : r.line = s.line := by rfl
  share : r.share = s.share := by rfl
  phase : r.seq.phase = s.seq.phase := by rfl
  series : r.ticket.series = s.ticket.series := by rfl
  awake : s.awake
  target : p ≠ .offline := by decide
  quiet : s.seq.phase ≠ .push → NothingDetected s → NothingDetected r := by exact fun _ h => h
  check : (s.check.step ≠ .inactive ↔ s.seq.phase = .check) → (r.check.step ≠ .inactive ↔ p = .check)
  hold : s.ticket.Fits s.seq.phase → s.seq.HoldFits s.seq.phase s.ticketOpen → r.seq.HoldFits p r.ticketOpen
  tickets : s.ticket.Fits s.seq.phase → r.ticket.Fits p
  numbers : s.ticket.Fits s.seq.phase → s.ticket.Numbered → r.ticket.Numbered := by exact fun _ h => h
  flow : c ≠ .checkTimerExpiry → TicketFlow s.ticket r.ticket := by exact fun _ => TicketFlow.refl _
  trips : s.trip.Agrees s.loader.ownAddress → r.trip.Agrees s.loader.ownAddress := by exact id
  conflict : .conflict ∈ s.trip.latched → .conflict ∈ r.trip.latched := by exact id
  tripped : TripsAgree s → p ≠ .tripped → r.trip.tripped = false
  leaves : s.seq.phase = .tripped → p ≠ .tripped → ∃ counts levels order, c = .sampleEvent counts levels order

/-- One move of the command `c`. -/
inductive Move (c : Instr) (s : State) : State → Prop
  /-- timers, notes, metering, ageing, and whatever else the invariants do not read -/
  | calm {t : State} (h : Calm s t) : Move c s t
  /-- R182: a read attempt ends -/
  | loading (f : Loader → Loader) (ha : s.attempting = true) (hown : (f s.loader).ownAddress = s.loader.ownAddress)
      (huse : (f s.loader).inUse = s.loader.inUse) : Move c s (s.onLoader f)
  /-- R183: the straps are sampled at the end of a reset -/
  | straps (straps : BitVec 4) (h : s.resetting.isSome = true) : Move c s
      { s with resetting := none, loader := { s.loader with ownAddress := straps.toNat + 1, port := .attempt } }
  /-- R188: the release -/
  | release (image : Vector Byte 192) (hc : c = .imageReadComplete image) (ha : s.attempting = true)
      (hv : judgeImage image.toList = none) :
      Move c s (s.release (settingsOf image.toList) (signatureOf image.toList))
  /-- R168: an uptime second -/
  | uptime (hc : c = .uptimeSecond) (n : Nat) : Move c s (s.onTicket (fun u => { u with uptime := n }))
  /-- the line controller's list, attempts and states, with the pending series -/
  | line (l : LineController) (series : Option Series) (hoff : l.state = .off ↔ s.line.state = .off)
      (hsilent : s.line.state = .silent → l.state = .silent)
      (hordered : s.line.Ordered s.ticket.series → l.Ordered series) :
      Move c s { s with line := l, ticket := { s.ticket with series := series } }
  /-- the valves, with the steps within a phase -/
  | drive (q : Sequence) (v : ValveDriver) (hphase : q.phase = s.seq.phase) (hheld : q.held = s.seq.held)
      (hreason : q.reason = s.seq.reason) (h : Interlocked s → Interlocked { s with seq := q, valve := v }) :
      Move c s { s with seq := q, valve := v }
  /-- a phase change -/
  | enter (r : State) (p : Phase) (h : Ready c s r p) : Move c s (r.enterPhase p)
  /-- the trip list and the latched causes, within a phase -/
  | trips (u : TripUnit) (ha : s.awake) (hagrees : s.trip.Agrees s.loader.ownAddress → u.Agrees s.loader.ownAddress)
      (hconflict : .conflict ∈ s.trip.latched → .conflict ∈ u.latched)
      (htripped : s.seq.phase ≠ .offline → s.seq.phase ≠ .tripped → u.tripped = true → s.trip.tripped = true) :
      Move c s (s.onTrip (fun _ => u))
  /-- shares and grants -/
  | grants (u : ShareUnit) (hstarvation : u.starvation = s.share.starvation)
      (h : s.share.Bounded s.cfg s.seq.phase → u.Bounded s.cfg s.seq.phase) : Move c s (s.onShare (fun _ => u))
  /-- R120: a record joins the peer table -/
  | peers (ps : List Peer) (ha : s.awake)
      (h : PeersFit s.loader.ownAddress s.peers → PeersFit s.loader.ownAddress ps) : Move c s (s.onPeers (fun _ => ps))
  /-- R38: the ticket closes in "TRIPPED" -/
  | closes (hp : s.seq.phase = .tripped) (ho : s.ticketOpen = true) : Move c s
      (((s.closeTicket .tripped).dropBaseline).onSeq (fun q => { q with held := none, stopped := false }))

/-- The moves of a command, one after another. -/
abbrev Moves (c : Instr) : State → State → Prop := Relation.ReflTransGen (Move c)

end Sys2Proof.Machine
end


section
/-!
PROOFS. Every move keeps every invariant. Each theorem goes through the moves in the order of `Move`; a move of another
block leaves what the invariant reads.
-/

namespace Sys2Proof.Machine

open Sys2Proof

/-! ## Facts the moves share -/

@[simp] theorem LineController.add_state (f : OutFrame) (l : LineController) : (l.add f).state = l.state := by
  unfold LineController.add
  split <;> rfl

@[simp] theorem LineController.add_inFlight (f : OutFrame) (l : LineController) : (l.add f).inFlight = l.inFlight := by
  unfold LineController.add
  split <;> rfl

@[simp] theorem State.enterPhase_lineState (p : Phase) (s : State) : (s.enterPhase p).line.state = s.line.state := by
  rcases s.enterPhase_line p with h | h | h <;> simp [h]

@[simp] theorem State.release_resetting (c : Settings) (n : Nat) (s : State) : (s.release c n).resetting = s.resetting := by
  simp [State.release]

@[simp] theorem State.release_loader (c : Settings) (n : Nat) (s : State) : (s.release c n).loader =
    { s.loader with state := .released, inUse := some c, signature := some n, port := .quiet } := by
  simp [State.release]

@[simp] theorem State.release_seq (c : Settings) (n : Nat) (s : State) : (s.release c n).seq =
    ⟨.idle, none, none, false, .draining, none, 0, none, .shutting, none, none, none⟩ := by
  simp [State.release]

@[simp] theorem State.release_check (c : Settings) (n : Nat) (s : State) : (s.release c n).check = s.check := by
  simp [State.release]

@[simp] theorem State.release_det (c : Settings) (n : Nat) (s : State) :
    (s.release c n).det = s.det.change s.seq.phase .idle := by
  simp [State.release]

@[simp] theorem State.release_peers (c : Settings) (n : Nat) (s : State) : (s.release c n).peers = s.peers := by
  simp [State.release]

@[simp] theorem State.release_trip (c : Settings) (n : Nat) (s : State) : (s.release c n).trip = s.trip := by
  simp [State.release]

@[simp] theorem State.release_ticket (c : Settings) (n : Nat) (s : State) :
    (s.release c n).ticket = { s.ticket with meterMarker := false } := by
  simp [State.release]

@[simp] theorem State.release_share (c : Settings) (n : Nat) (s : State) :
    (s.release c n).share = (s.share.start c.settleDepth).change s.seq.phase .idle := by
  simp [State.release]

theorem State.attempting_iff (s : State) :
    s.attempting = true ↔ s.resetting = none ∧ s.loader.state = .reading ∧ s.loader.port = .attempt := by
  simp [State.attempting, and_assoc]

/-- A read attempt is made in "OFFLINE" alone. -/
theorem OfflineQuiet.offline_of_attempting {s : State} (h : OfflineQuiet s) (ha : s.attempting = true) :
    s.seq.phase = .offline := by
  by_contra hp
  have hl := (h.2.2 hp).1
  rw [((State.attempting_iff s).mp ha).2.1] at hl
  cases hl

theorem OfflineQuiet.offline_of_resetting {s : State} (h : OfflineQuiet s) (ha : s.resetting.isSome = true) :
    s.seq.phase = .offline :=
  h.1 (Option.isSome_iff_ne_none.mp ha)

theorem OfflineQuiet.not_resetting {s : State} (h : OfflineQuiet s) (hp : s.seq.phase ≠ .offline) : s.resetting = none :=
  Decidable.not_not.mp fun hr => hp (h.1 hr)

theorem Calm.cfg {s t : State} (h : Calm s t) : t.cfg = s.cfg := by
  rw [State.cfg, h.loader]
  rfl

theorem Ready.phase_ne {c : Instr} {s r : State} {p : Phase} (h : Ready c s r p) (hq : OfflineQuiet s) :
    s.seq.phase ≠ .offline := hq.phase_ne h.awake

theorem Ready.cfg {c : Instr} {s r : State} {p : Phase} (h : Ready c s r p) : r.cfg = s.cfg := by
  rw [State.cfg, h.loader]
  rfl

variable {c : Instr} {s t : State}

/-! ## `OfflineQuiet` -/

theorem State.release_lineState (g : Settings) (n : Nat) (s : State) : (s.release g n).line.state = .listen := by
  simp only [State.release, State.onLine_line, LineController.start, LineController.queueAnnounce]
  split <;> simp

theorem Move.offlineQuiet (m : Move c s t) (h : OfflineQuiet s) : OfflineQuiet t := by
  have hquiet := h
  obtain ⟨hreset, hoff, hon⟩ := h
  cases m with
  | calm k =>
    have hpeers : s.peers = [] → t.peers = [] := fun he => by simpa [he] using k.peers
    refine ⟨by rw [k.resetting, k.phase]; exact hreset, fun hp => ?_, fun hp => ?_⟩
    · obtain ⟨hline, hps, htrip⟩ := hoff (k.phase ▸ hp)
      exact ⟨k.lineState.trans hline, hpeers hps, by rw [k.trip]; exact htrip⟩
    · obtain ⟨hload, hline⟩ := hon (k.phase ▸ hp)
      exact ⟨by rw [k.loader]; exact hload, k.lineState ▸ hline⟩
  | loading f ha =>
    have hp := hquiet.offline_of_attempting ha
    exact ⟨hreset, hoff, fun hne => absurd hp hne⟩
  | straps n hr =>
    have hp := hquiet.offline_of_resetting hr
    exact ⟨fun hne => absurd rfl hne, hoff, fun hne => absurd hp hne⟩
  | release image hc ha hv =>
    obtain ⟨hr, _⟩ := (State.attempting_iff s).mp ha
    refine ⟨by simp [hr], by simp, fun _ => ⟨by simp, by simp [State.release_lineState]⟩⟩
  | uptime => exact ⟨hreset, hoff, hon⟩
  | line l series hl =>
    refine ⟨hreset, fun hp => ?_, fun hp => ?_⟩
    · obtain ⟨hline, hrest⟩ := hoff hp
      exact ⟨hl.mpr hline, hrest⟩
    · obtain ⟨hload, hline⟩ := hon hp
      exact ⟨hload, fun he => hline (hl.mp he)⟩
  | drive q v hphase =>
    exact ⟨by rw [hphase]; exact hreset, by rw [hphase]; exact hoff, by rw [hphase]; exact hon⟩
  | enter r p k =>
    have hp := k.phase_ne hquiet
    obtain ⟨hload, hline⟩ := hon hp
    refine ⟨fun hr => absurd (hquiet.not_resetting hp) ?_, fun he => absurd ?_ k.target, fun _ => ⟨?_, ?_⟩⟩
    · simpa [k.resetting] using hr
    · simpa using he
    · simpa [k.loader] using hload
    · simpa [k.line] using hline
  | trips u ha =>
    have hp := hquiet.phase_ne ha
    exact ⟨hreset, fun he => absurd he hp, hon⟩
  | grants => exact ⟨hreset, hoff, hon⟩
  | peers ps ha =>
    have hp := hquiet.phase_ne ha
    exact ⟨hreset, fun he => absurd he hp, hon⟩
  | closes hp ho =>
    exact ⟨fun hr => hreset hr, fun he => absurd (he.symm.trans hp) (by decide), hon⟩

/-! ## `Interlocked` -/

/-- R81, R85, R86, R93: commanding the valves sets them for the present phase and step, whatever stood before. -/
theorem State.interlocked_applyCommands (s : State) : Interlocked s.applyCommands :=
  ⟨ValveDriver.obey_lvCommand _ _, rfl, min_le_right _ _, s.svWanted_le, min_le_right _ _, s.rvWanted_le,
    fun h => by_contra fun hp => h (s.svWanted_zero hp), fun h => by_contra fun hp => h (s.rvWanted_zero hp)⟩

theorem State.interlocked_enterPhase (p : Phase) (s : State) : Interlocked (s.enterPhase p) := by
  unfold State.enterPhase Interlocked
  simp only [State.promptTest_valve, State.promptTest_seq]
  exact State.interlocked_applyCommands _

theorem State.interlocked_release (g : Settings) (n : Nat) (s : State) : Interlocked (s.release g n) := by
  have h := State.interlocked_enterPhase .idle ((((s.onLoader (fun l => { l with
      state := .released, inUse := some g, signature := some n, port := .quiet })).onInput
      (fun i => { i with receiver := .waiting })).onShare (ShareUnit.start g.settleDepth)).onSeq (fun q => { q with
      held := none
      reason := none
      stopped := false
      drainStep := .draining
      drainTimer := none
      residual := 0
      recoveryTimer := none
      closeStep := .shutting
      bleedTimer := none }) |>.onInput (fun i => { i with identity := [] }))
  exact h

theorem Move.interlocked (m : Move c s t) (h : Interlocked s) : Interlocked t := by
  cases m with
  | calm k =>
    unfold Interlocked
    rw [k.phase, k.drainStep, k.closeStep, k.lvCommand, k.bvCommand, k.svTarget, k.rvTarget, k.svOpening, k.rvOpening]
    exact h
  | release image => exact State.interlocked_release _ _ s
  | drive q v _ _ _ hv => exact hv h
  | enter r p k => exact State.interlocked_enterPhase p r
  | loading | straps | uptime | line | trips | grants | peers | closes => exact h

/-! ## `TripsAgree` -/

theorem TripUnit.tripped_of_empty {u : TripUnit} (hlatched : u.latched = []) (hlist : u.list = []) : u.tripped = false := by
  simp [TripUnit.tripped, hlatched, hlist]

theorem OfflineQuiet.trip_empty (h : OfflineQuiet s) (hp : s.seq.phase = .offline) : s.trip = .reset := by
  obtain ⟨_, _, hlatched, hlist, hout⟩ := h.2.1 hp
  cases hs : s.trip
  rw [hs] at hlatched hlist hout
  cases hlatched; cases hlist; cases hout
  rfl

theorem TripUnit.agrees_reset {own : Nat} (h : isStation own = true) : TripUnit.reset.Agrees own := by
  refine ⟨h, by decide, by simp [TripUnit.reset], by simp [TripUnit.reset], rfl, rfl⟩

theorem isStation_straps (straps : BitVec 4) : isStation (straps.toNat + 1) = true := by
  have hlt := straps.isLt
  simp [isStation]
  omega

theorem Move.tripsAgree (m : Move c s t) (h : TripsAgree s) : TripsAgree t := by
  have hs := h
  rw [tripsAgree_iff] at h ⊢
  obtain ⟨hquiet, hagrees, htripped⟩ := h
  refine ⟨m.offlineQuiet hquiet, ?_⟩
  cases m with
  | calm k =>
    rw [k.loader, k.trip, k.phase]
    exact ⟨hagrees, htripped⟩
  | loading f ha how =>
    simp only [State.onLoader_loader, State.onLoader_trip, State.onLoader_seq]
    rw [how]
    exact ⟨hagrees, htripped⟩
  | straps n hr =>
    have htrip := hquiet.trip_empty (hquiet.offline_of_resetting hr)
    refine ⟨?_, htripped⟩
    simpa only [htrip] using TripUnit.agrees_reset (isStation_straps n)
  | release image hc ha =>
    have htrip := hquiet.trip_empty (hquiet.offline_of_attempting ha)
    simp only [State.release_loader, State.release_trip, htrip]
    exact ⟨TripUnit.agrees_reset hagrees.1, fun k => absurd k (by decide)⟩
  | drive q v hphase => exact ⟨hagrees, fun k => hphase.trans (htripped k)⟩
  | enter r p k =>
    simp only [State.enterPhase_loader, State.enterPhase_trip, State.enterPhase_seq, k.loader]
    refine ⟨k.trips hagrees, fun hr => by_contra fun hp => ?_⟩
    exact Bool.noConfusion ((k.tripped hs hp).symm.trans hr)
  | trips u ha hu _ ht =>
    refine ⟨hu hagrees, fun k => by_contra fun hp => ?_⟩
    exact hp (htripped (ht (hquiet.phase_ne ha) hp k))
  | uptime | line | grants | peers | closes => exact ⟨hagrees, htripped⟩

/-! ## `PeersKept` -/

theorem PeersFit.of_sublist {own : Nat} {ps qs : List Peer} (h : PeersFit own ps)
    (hs : (qs.map Peer.address).Sublist (ps.map Peer.address)) : PeersFit own qs := by
  refine ⟨h.1.sublist hs, fun q hq => ?_⟩
  obtain ⟨p, hp, he⟩ := List.mem_map.mp (hs.subset (List.mem_map_of_mem hq))
  exact he ▸ h.2 p hp

theorem Move.peersKept (m : Move c s t) (h : PeersKept s) : PeersKept t := by
  rw [peersKept_iff] at h ⊢
  obtain ⟨hquiet, hown, hfit⟩ := h
  refine ⟨m.offlineQuiet hquiet, ?_⟩
  cases m with
  | calm k =>
    rw [k.loader]
    exact ⟨hown, hfit.of_sublist k.peers⟩
  | loading f ha how =>
    simp only [State.onLoader_loader, State.onLoader_peers]
    rw [how]
    exact ⟨hown, hfit⟩
  | straps n hr =>
    obtain ⟨_, hpeers, _⟩ := hquiet.2.1 (hquiet.offline_of_resetting hr)
    refine ⟨isStation_straps n, ?_⟩
    simp [PeersFit, hpeers]
  | release image => simpa using And.intro hown hfit
  | enter r p k => simpa [k.loader, k.peers] using And.intro hown hfit
  | peers ps ha hp => exact ⟨hown, hp hfit⟩
  | uptime | line | drive | trips | grants | closes => exact ⟨hown, hfit⟩

/-! ## `GrantsBounded` -/

/-- R143: in a phase that draws on no pool every grant is 0, and so within its bounds. -/
theorem ShareUnit.bounded_of_zero {g : Settings} {phase : Phase} {u : ShareUnit} (h : ∀ p, u.grant.get p = 0) :
    u.Bounded g phase := fun p => by simp [h p]

/-- R143: a phase change lowers grants and raises none. -/
theorem ShareUnit.Bounded.change {g : Settings} {phase : Phase} {u : ShareUnit} (h : u.Bounded g phase) (p : Phase) :
    (u.change phase p).Bounded g p := by
  intro q
  obtain ⟨_, hjoined, hisland, hspot⟩ := h q
  rw [ShareUnit.change_grant]
  cases hd : p.draws q with
  | false => simp
  | true => exact ⟨fun hf => absurd hf (by simp), by simpa using hjoined, by simpa using hisland, by simpa using hspot⟩

theorem Move.grantsBounded (m : Move c s t) (h : GrantsBounded s) : GrantsBounded t := by
  rw [grantsBounded_iff] at h ⊢
  obtain ⟨hquiet, hb⟩ := h
  refine ⟨m.offlineQuiet hquiet, ?_⟩
  cases m with
  | calm k =>
    rw [k.cfg, k.phase, k.share]
    exact hb
  | loading f ha _ huse =>
    have hcfg : (s.onLoader f).cfg = s.cfg := by simp [State.cfg, huse]
    rw [hcfg]
    exact hb
  | release image => exact ShareUnit.bounded_of_zero fun p => by simp [Phase.draws]
  | drive q v hphase =>
    change s.share.Bounded s.cfg q.phase
    exact hphase.symm ▸ hb
  | enter r p k =>
    have hchange := hb.change p
    simpa [k.share, k.phase, k.cfg] using hchange
  | grants u _ hu => exact hu hb
  | straps | uptime | line | trips | peers | closes => exact hb

/-! ## `PushQuiet` -/

/-- R65, R145: leaving "PUSH" ends what is under way, and a change between other phases begins nothing. -/
theorem nothingDetected_change {r : State} {before after : Phase} (hp : after ≠ .push)
    (h : before ≠ .push → NothingDetected r) :
    (r.det.change before after).stage = .counting ∧ (r.det.change before after).lowCount = 0 ∧
      (r.det.change before after).confirmTimer = none ∧ (r.share.change before after).starvation = none := by
  by_cases hb : before = .push
  · simp only [DetectorUnit.change, ShareUnit.change, if_pos (And.intro hb hp)]
    split <;> simp
  · obtain ⟨h1, h2, h3, h4⟩ := h hb
    have hn : ¬ (before = .push ∧ after ≠ .push) := fun k => hb k.1
    simp only [DetectorUnit.change, ShareUnit.change, if_neg hn]
    split <;> simp [h1, h2, h3, h4]

theorem Move.pushQuiet (m : Move c s t) (h : PushQuiet s) : PushQuiet t := by
  have hnothing : s.seq.phase ≠ .push → NothingDetected s := h
  change t.seq.phase ≠ .push → NothingDetected t
  cases m with
  | calm k => exact fun hp => k.quiet (k.phase ▸ hp) (hnothing (k.phase ▸ hp))
  | release image =>
    intro _
    have hchange := nothingDetected_change (r := s) (before := s.seq.phase) (after := .idle) (by decide) hnothing
    simpa [NothingDetected, ShareUnit.change, ShareUnit.start] using hchange
  | drive q v hphase => exact fun hp => hnothing (by rwa [← hphase])
  | enter r p k =>
    intro hp
    have hchange := nothingDetected_change (r := r) (before := s.seq.phase) (after := p) (by simpa using hp)
      (fun hb => k.quiet hb (hnothing hb))
    simpa [NothingDetected, k.phase] using hchange
  | grants u hu =>
    intro hp
    obtain ⟨h1, h2, h3, h4⟩ := hnothing hp
    exact ⟨h1, h2, h3, hu.trans h4⟩
  | loading | straps | uptime | line | trips | peers | closes => exact hnothing

/-! ## `CheckInPhase` -/

theorem Move.checkInPhase (m : Move c s t) (h : CheckInPhase s) : CheckInPhase t := by
  obtain ⟨hquiet, hcheck⟩ := h
  refine ⟨m.offlineQuiet hquiet, ?_⟩
  cases m with
  | calm k =>
    rw [k.phase, ← hcheck]
    exact not_congr k.check
  | release image hc ha =>
    simpa [hquiet.offline_of_attempting ha] using hcheck
  | drive q v hphase => simpa only [hphase] using hcheck
  | enter r p k => simpa using k.check hcheck
  | loading | straps | uptime | line | trips | grants | peers | closes => exact hcheck

/-! ## `TicketsAgree`, `NumbersDiffer`, `HoldKept` -/

theorem TicketUnit.Kept.fits {u v : TicketUnit} (h : u.Kept v) {p : Phase} (hu : u.Fits p) : v.Fits p := by
  unfold TicketUnit.Fits
  rw [h.store, h.current.isSome]
  exact hu

theorem TicketUnit.Kept.numbered {u v : TicketUnit} (h : u.Kept v) (hu : u.Numbered) : v.Numbered := by
  have hn : v.numbers = u.numbers := by
    simp only [TicketUnit.numbers, List.map_append, h.store, h.current.numbers]
  unfold TicketUnit.Numbered
  rw [hn, h.nextNumber]
  exact hu

/-- R174: the open ticket becomes the last of the store, under its number. -/
theorem TicketUnit.closeTicket_numbers (r : EndReason) (n : Nat) (u : TicketUnit) :
    (u.closeTicket r n).numbers = u.numbers := by
  unfold TicketUnit.closeTicket
  split
  · rfl
  · rename_i k hk
    simp [TicketUnit.numbers, hk]

@[simp] theorem TicketUnit.closeTicket_nextNumber (r : EndReason) (n : Nat) (u : TicketUnit) :
    (u.closeTicket r n).nextNumber = u.nextNumber := by
  unfold TicketUnit.closeTicket
  split <;> rfl

@[simp] theorem TicketUnit.closeTicket_series (r : EndReason) (n : Nat) (u : TicketUnit) :
    (u.closeTicket r n).series = u.series := by
  unfold TicketUnit.closeTicket
  split <;> rfl

@[simp] theorem TicketUnit.closeTicket_uptime (r : EndReason) (n : Nat) (u : TicketUnit) :
    (u.closeTicket r n).uptime = u.uptime := by
  unfold TicketUnit.closeTicket
  split <;> rfl

@[simp] theorem TicketUnit.closeTicket_current (r : EndReason) (n : Nat) (u : TicketUnit) :
    (u.closeTicket r n).current = none := by
  unfold TicketUnit.closeTicket
  split
  · assumption
  · rfl

theorem TicketUnit.Numbered.closeTicket {u : TicketUnit} (h : u.Numbered) (r : EndReason) (n : Nat) :
    (u.closeTicket r n).Numbered := by
  unfold TicketUnit.Numbered
  rw [TicketUnit.closeTicket_numbers, TicketUnit.closeTicket_nextNumber]
  exact h

/-- R174: closing the ticket puts it into the store. -/
theorem TicketUnit.flow_closeTicket (r : EndReason) (n : Nat) (u : TicketUnit) : TicketFlow u (u.closeTicket r n) := by
  refine ⟨u.closeTicket_uptime r n, ?_⟩
  cases hk : u.current with
  | none => exact .inl (by simp [TicketUnit.closeTicket, hk])
  | some k =>
    exact .inr ⟨k, { k with closeTime := some u.uptime, finalThrottle := some n, endReason := some r }, rfl, {}, by simp,
      by simp only [TicketUnit.closeTicket, hk], rfl, rfl, rfl⟩

/-- R174: with the ticket closed the store holds four at most. -/
theorem TicketUnit.closeTicket_length {r : EndReason} {n : Nat} {u : TicketUnit} (hfull : u.store.length ≤ 4)
    (hroom : u.current.isSome = true → u.store.length ≤ 3) : (u.closeTicket r n).store.length ≤ 4 := by
  unfold TicketUnit.closeTicket
  split
  · exact hfull
  · rename_i k hk
    have hlen := hroom (by rw [hk]; rfl)
    simp only [List.length_append, List.length_singleton]
    omega

/-- R174: with its ticket closed the unit stands for a phase without one. -/
theorem TicketUnit.Fits.closeTicket {u : TicketUnit} {p : Phase} (h : u.Fits p) (r : EndReason) (n : Nat) {q : Phase}
    (hq : q.hasTicket = false) (hc : q ≠ .check) : (u.closeTicket r n).Fits q := by
  obtain ⟨_, _, hfull, hroom⟩ := h
  refine ⟨fun k => absurd k (by simp [hq]), fun k => absurd k (by simp), ?_, fun k => ?_⟩
  · exact TicketUnit.closeTicket_length hfull (fun k => hroom (.inr k))
  · rcases k with k | k
    · exact absurd k hc
    · exact absurd k (by simp)

theorem Move.fits (m : Move c s t) (hquiet : OfflineQuiet s) (h : s.ticket.Fits s.seq.phase) :
    t.ticket.Fits t.seq.phase := by
  cases m with
  | calm k => exact k.phase ▸ k.ticket.fits h
  | release image hc ha =>
    rw [hquiet.offline_of_attempting ha] at h
    obtain ⟨hhas, hopen, hfull, hroom⟩ := h
    have hnone : s.ticket.current.isSome = false := by simpa [Phase.hasTicket] using hopen
    simp [TicketUnit.Fits, Phase.hasTicket, hnone, hfull]
  | drive q v hphase => simpa only [hphase] using h
  | enter r p k =>
    simp only [State.enterPhase_ticket, State.enterPhase_seq]
    exact k.tickets h
  | closes hp ho =>
    rw [State.onSeq_seq]
    exact h.closeTicket _ _ (by simp [hp, Phase.hasTicket]) (by simp [hp])
  | loading | straps | uptime | line | trips | grants | peers => exact h

theorem Move.ticketsAgree (m : Move c s t) (h : TicketsAgree s) : TicketsAgree t :=
  ⟨m.offlineQuiet h.1, m.fits h.1 h.2⟩

theorem Move.numbersDiffer (m : Move c s t) (h : NumbersDiffer s) : NumbersDiffer t := by
  rw [numbersDiffer_iff] at h ⊢
  obtain ⟨htickets, hn⟩ := h
  refine ⟨m.ticketsAgree htickets, ?_⟩
  cases m with
  | calm k => exact k.ticket.numbered hn
  | release image => rw [State.release_ticket]; exact hn
  | enter r p k => rw [State.enterPhase_ticket]; exact k.numbers htickets.2 hn
  | closes hp ho => exact hn.closeTicket _ _
  | loading | straps | uptime | line | drive | trips | grants | peers => exact hn

theorem Move.holdKept (m : Move c s t) (h : HoldKept s) : HoldKept t := by
  rw [holdKept_iff] at h ⊢
  obtain ⟨htickets, hh⟩ := h
  refine ⟨m.ticketsAgree htickets, ?_⟩
  cases m with
  | calm k =>
    have hopen : t.ticketOpen = s.ticketOpen := k.ticket.current.isSome
    unfold Sequence.HoldFits
    rw [k.phase, k.reason, k.held, hopen]
    exact hh
  | release image => simp [Sequence.HoldFits]
  | drive q v hphase hheld hreason =>
    unfold Sequence.HoldFits
    rw [hphase, hheld, hreason]
    exact hh
  | enter r p k =>
    rw [State.enterPhase_ticketOpen, State.enterPhase_seq]
    exact k.hold htickets.2 hh
  | closes hp ho =>
    obtain ⟨hreason, _, _⟩ := hh
    refine ⟨hreason, fun he => absurd (hp.symm.trans he) (by decide), fun _ hopen => ?_⟩
    exact absurd hopen (by simp [State.ticketOpen, State.closeTicket])
  | loading | straps | uptime | line | trips | grants | peers => exact hh

end Sys2Proof.Machine
end


section
/-!
PROOFS. The outgoing list (chapter 6, sections 6.4 and 6.5): each operation on it keeps the order of R109 and the match with
the frame in flight, and so does every move.
-/

namespace Sys2Proof.Machine

open Sys2Proof

/-! ## Places (R109) -/

theorem OutFrame.place_lt_of_kind_lt {f g : OutFrame} (h : f.kind < g.kind) : f.place < g.place := by
  cases f <;> cases g <;> simp [OutFrame.kind, OutFrame.place] at * <;> omega

theorem OutFrame.place_lt_of_kind_le {f g : OutFrame} (h : f.kind ≤ g.kind) (hne : f ≠ g) (hg : g.kind ≠ 4) :
    f.place < g.place := by
  cases f <;> cases g <;> simp [OutFrame.kind, OutFrame.place] at *

theorem OutFrame.kind_eq_four {f : OutFrame} : f.kind = 4 ↔ ∃ part, f = .report part := by
  cases f <;> simp [OutFrame.kind]

/-- R109: a frame of its own kind goes to its place in an ordered list. -/
theorem insertFrame_ordered {f : OutFrame} {l : List OutFrame} (hf : f.kind ≠ 4) (hl : f ∉ l)
    (h : l.Pairwise (fun a b => a.place < b.place)) : (insertFrame f l).Pairwise (fun a b => a.place < b.place) := by
  have hleft : ∀ a ∈ l.filter (fun g => decide (g.kind ≤ f.kind)), a.place < f.place := by
    intro a ha
    obtain ⟨hmem, hk⟩ := List.mem_filter.mp ha
    exact OutFrame.place_lt_of_kind_le (by simpa using hk) (fun he => hl (he ▸ hmem)) hf
  have hright : ∀ b ∈ l.filter (fun g => decide (f.kind < g.kind)), f.place < b.place := by
    intro b hb
    exact OutFrame.place_lt_of_kind_lt (by simpa using (List.mem_filter.mp hb).2)
  refine List.pairwise_append.mpr ⟨h.filter _, List.pairwise_cons.mpr ⟨hright, h.filter _⟩, fun a ha b hb => ?_⟩
  rcases List.mem_cons.mp hb with rfl | hb
  · exact hleft a ha
  · exact (hleft a ha).trans (hright b hb)

/-! ## The operations of R110 -/

namespace LineController

variable {l : LineController} {series : Option Series} {f : OutFrame}

theorem seriesWaits_iff : l.seriesWaits = true ↔ ∃ part, .report part ∈ l.outgoing := by
  simp only [seriesWaits, List.any_eq_true, beq_iff_eq, OutFrame.kind_eq_four]
  exact ⟨fun ⟨_, hf, part, he⟩ => ⟨part, he ▸ hf⟩, fun ⟨part, hp⟩ => ⟨_, hp, part, rfl⟩⟩

theorem add_outgoing (f : OutFrame) (l : LineController) :
    (l.add f).outgoing = if f ∈ l.outgoing then l.outgoing else insertFrame f l.outgoing := by
  unfold add
  by_cases h : f ∈ l.outgoing <;> simp [h]

theorem takesRequests_congr {l l' : LineController} (h : l'.state = l.state) : l'.takesRequests = l.takesRequests := by
  simp [takesRequests, h]

theorem sending_congr {l l' : LineController} (h : l'.state = l.state) : l'.sending = l.sending := by
  simp [sending, h]

/-- R110: a frame of its own kind is added where the list takes requests; TRIP and CLEAR exclude each other. -/
theorem Ordered.add (h : l.Ordered series) (ht : l.takesRequests = true) (hf : f.kind ≠ 4)
    (htrip : f = .trip → .clear ∉ l.outgoing) (hclear : f = .clear → .trip ∉ l.outgoing) :
    (l.add f).Ordered series := by
  obtain ⟨hpair, hboth, hseries, _, hflight, hin, hout⟩ := h
  refine ⟨?_, fun hb => ?_, fun hw => ?_, fun hn => ?_, ?_, fun i hi hr => ?_, fun i hi hr => ?_⟩
  · rw [add_outgoing]
    split
    · exact hpair
    · exact insertFrame_ordered hf (by assumption) hpair
  · rw [mem_add, mem_add] at hb
    obtain ⟨ha | ha, hc | hc⟩ := hb
    · exact hboth ⟨ha, hc⟩
    · exact hclear hc.symm ha
    · exact htrip ha.symm hc
    · exact OutFrame.noConfusion (ha.trans hc.symm)
  · obtain ⟨part, hp⟩ := seriesWaits_iff.mp hw
    rcases (mem_add _ _ _).mp hp with hp | hp
    · exact hseries (seriesWaits_iff.mpr ⟨part, hp⟩)
    · exact absurd (OutFrame.kind_eq_four.mpr ⟨part, hp.symm⟩) hf
  · rw [takesRequests_congr (add_state f l), ht] at hn
    exact Bool.noConfusion hn
  · rw [add_inFlight, sending_congr (add_state f l)]
    exact hflight
  · rw [add_inFlight] at hi
    exact (mem_add _ _ _).mpr (.inl (hin i hi hr))
  · rw [add_inFlight] at hi
    exact hout i hi hr

@[simp] theorem remove_state (f : OutFrame) (l : LineController) : (l.remove f).state = l.state := rfl

/-- R110: a TRIP or a CLEAR is removed, and marked where it is in flight. -/
theorem Ordered.remove (h : l.Ordered series) (hf : f = .trip ∨ f = .clear) : (l.remove f).Ordered series := by
  obtain ⟨hpair, hboth, hseries, htakes, hflight, hin, hout⟩ := h
  have hmem : ∀ i, i ∈ (l.remove f).inFlight →
      ∃ j, j ∈ l.inFlight ∧ i.frame = j.frame ∧ (i.removed = true ↔ j.removed = true ∨ j.frame = f) := by
    intro i hi
    obtain ⟨j, hj, rfl⟩ := Option.mem_map.mp hi
    refine ⟨j, hj, ?_⟩
    split <;> simp_all
  refine ⟨hpair.filter _, fun hb => ?_, fun hw => ?_, fun hn => ?_, ?_, fun i hi hr => ?_, fun i hi hr => ?_⟩
  · exact hboth ⟨((mem_remove _ _ _).mp hb.1).1, ((mem_remove _ _ _).mp hb.2).1⟩
  · obtain ⟨part, hp⟩ := seriesWaits_iff.mp hw
    exact hseries (seriesWaits_iff.mpr ⟨part, ((mem_remove _ _ _).mp hp).1⟩)
  · obtain ⟨ho, hi⟩ := htakes hn
    simp [LineController.remove, ho, hi]
  · simpa [LineController.remove, LineController.sending] using hflight
  · obtain ⟨j, hj, he, hiff⟩ := hmem i hi
    have hkept : ¬ (j.removed = true ∨ j.frame = f) := fun k => Bool.noConfusion (hr.symm.trans (hiff.mpr k))
    rw [not_or, Bool.not_eq_true] at hkept
    exact he ▸ (mem_remove _ _ _).mpr ⟨hin j hj hkept.1, hkept.2⟩
  · obtain ⟨j, hj, he, hiff⟩ := hmem i hi
    rw [he]
    rcases hiff.mp hr with k | k
    · exact hout j hj k
    · exact k ▸ hf

theorem Ordered.queueTrip (h : l.Ordered series) : l.queueTrip.Ordered series := by
  unfold LineController.queueTrip
  split
  · refine (h.remove (.inr rfl)).add (by rwa [takesRequests_congr (remove_state _ l)]) (by decide) (fun _ hc => ?_)
      (fun hc => OutFrame.noConfusion hc)
    exact ((mem_remove _ _ _).mp hc).2 rfl
  · exact h

theorem Ordered.queueClear (h : l.Ordered series) : l.queueClear.Ordered series := by
  unfold LineController.queueClear
  split
  · refine (h.remove (.inl rfl)).add (by rwa [takesRequests_congr (remove_state _ l)]) (by decide)
      (fun hc => OutFrame.noConfusion hc) (fun _ hc => ?_)
    exact ((mem_remove _ _ _).mp hc).2 rfl
  · exact h

theorem Ordered.queueAnnounce (h : l.Ordered series) : l.queueAnnounce.Ordered series := by
  unfold LineController.queueAnnounce
  split
  · exact h.add (by assumption) (by decide) (fun hc => OutFrame.noConfusion hc) (fun hc => OutFrame.noConfusion hc)
  · exact h

theorem Ordered.prompt (h : l.Ordered series) (spacing : Nat) : (l.prompt spacing).Ordered series := by
  unfold LineController.prompt
  split_ifs
  · exact h
  · exact h.queueAnnounce
  · exact h

@[simp] theorem queueTrip_state (l : LineController) : l.queueTrip.state = l.state := by
  unfold LineController.queueTrip
  split <;> simp

@[simp] theorem queueClear_state (l : LineController) : l.queueClear.state = l.state := by
  unfold LineController.queueClear
  split <;> simp

@[simp] theorem queueAnnounce_state (l : LineController) : l.queueAnnounce.state = l.state := by
  unfold LineController.queueAnnounce
  split <;> simp

@[simp] theorem prompt_state (spacing : Nat) (l : LineController) : (l.prompt spacing).state = l.state := by
  unfold LineController.prompt
  split_ifs <;> simp

/-- R111: an empty list, with no attempt, stands in order in every state that sends nothing. -/
theorem ordered_of_empty (ho : l.outgoing = []) (hi : l.inFlight = none) (hs : l.sending = false) : l.Ordered series := by
  simp [Ordered, seriesWaits, ho, hi, hs]

/-- R104 to R107: an attempt ends; frames may leave the list with it, and none joins. -/
theorem Ordered.endAttempt (h : l.Ordered series) {l' : LineController} (ho : l'.outgoing.Sublist l.outgoing)
    (hi : l'.inFlight = none) (hs : l'.sending = false) (ht : l'.takesRequests = true) : l'.Ordered series := by
  obtain ⟨hpair, hboth, hseries, _⟩ := h
  refine ⟨hpair.sublist ho, fun hb => hboth ⟨ho.subset hb.1, ho.subset hb.2⟩, fun hw => ?_, by simp [ht], by simp [hi, hs],
    by simp [hi], by simp [hi]⟩
  obtain ⟨part, hp⟩ := seriesWaits_iff.mp hw
  exact hseries (seriesWaits_iff.mpr ⟨part, ho.subset hp⟩)

end LineController

/-! ## The prompt test and the phase changes -/

/-- R108, R113: in off and in "SILENT" no prompt test is made. -/
theorem State.promptTest_of_refuses {s : State} (h : s.line.takesRequests = false) : s.promptTest = s := by
  simp [State.promptTest, h]

theorem State.ordered_promptTest {s : State} {series : Option Series} (h : s.line.Ordered series) :
    s.promptTest.line.Ordered series := by
  unfold State.promptTest
  split
  · exact h.prompt _
  · exact h

theorem State.ordered_enterPhase {s : State} {series : Option Series} (p : Phase) (h : s.line.Ordered series) :
    (s.enterPhase p).line.Ordered series :=
  State.ordered_promptTest (s := (((((s.onSeq (fun q => { q with phase := p, tempCode := none, tempTimer := none })).onTicket
      (fun t => { t with meterMarker := false })).onDet (DetectorUnit.change s.seq.phase p)).onShare
      (ShareUnit.change s.seq.phase p)).applyCommands)) h

/-- R108: a phase change in off and in "SILENT" leaves the line controller. -/
theorem State.enterPhase_line_of_refuses {s : State} (p : Phase) (h : s.line.takesRequests = false) :
    (s.enterPhase p).line = s.line := by
  rw [State.enterPhase, State.promptTest_of_refuses]
  · rfl
  · exact h

/-- R112, R118: the line controller after the release, where it was off with nothing to send. -/
theorem State.release_line (g : Settings) (n : Nat) {s : State} (hoff : s.line.state = .off) (ho : s.line.outgoing = []) :
    (s.release g n).line = { s.line with state := .listen, track := .lost, outgoing := [.announce] } := by
  have hrefuses : s.line.takesRequests = false := by simp [LineController.takesRequests, hoff]
  simp only [State.release, State.onLine_line, State.onValve_line, State.enterIdle]
  rw [State.enterPhase_line_of_refuses _ (by exact hrefuses)]
  simp [LineController.start, LineController.queueAnnounce, LineController.takesRequests, LineController.add, insertFrame, ho]

variable {c : Instr} {s t : State}

theorem Move.outgoingOrdered (m : Move c s t) (h : OutgoingOrdered s) : OutgoingOrdered t := by
  rw [outgoingOrdered_iff] at h ⊢
  obtain ⟨hquiet, hord⟩ := h
  refine ⟨m.offlineQuiet hquiet, ?_⟩
  cases m with
  | calm k =>
    unfold LineController.Ordered LineController.seriesWaits at hord ⊢
    rw [k.outgoing, k.inFlight, k.ticket.series, LineController.takesRequests_congr k.lineState,
      LineController.sending_congr k.lineState]
    exact hord
  | release image hc ha =>
    have hoff := (hquiet.2.1 (hquiet.offline_of_attempting ha)).1
    obtain ⟨_, _, _, htakes, _⟩ := hord
    obtain ⟨ho, hi⟩ := htakes (by simp [LineController.takesRequests, hoff])
    rw [State.release_line _ _ hoff ho, State.release_ticket]
    simp [LineController.Ordered, LineController.seriesWaits, LineController.takesRequests, LineController.sending,
      OutFrame.kind, hi]
  | line l series _ _ hl => exact hl hord
  | enter r p k =>
    rw [State.enterPhase_ticket]
    refine State.ordered_enterPhase p ?_
    rw [k.line, k.series]
    exact hord
  | closes hp ho =>
    have hseries : (s.closeTicket .tripped).ticket.series = s.ticket.series := TicketUnit.closeTicket_series _ _ _
    simpa [hseries] using hord
  | loading | straps | uptime | drive | trips | grants | peers => exact hord

end Sys2Proof.Machine
end


section
/-!
PROOFS. The trip unit's own changes (chapter 9) and the numbers of new tickets (R169).
-/

namespace Sys2Proof.Machine

open Sys2Proof

/-! ## Latched causes (R154) -/

theorem mem_latchable {c : Cause} : c ∈ latchable ↔ c ≠ .unknown := by
  cases c <;> simp [latchable]

theorem contains_latchInto (c d : Cause) (l : List Cause) :
    (latchInto c l).contains d = (decide (d ≠ .unknown) && (decide (d = c) || l.contains d)) := by
  rw [Bool.eq_iff_iff]
  simp [mem_latchInto]

theorem latchInto_ordered (c : Cause) (l : List Cause) :
    latchInto c l = latchable.filter (fun d => (latchInto c l).contains d) := by
  rw [latchInto]
  refine List.filter_congr fun d hd => ?_
  rw [← latchInto, contains_latchInto, decide_eq_true (mem_latchable.mp hd), Bool.true_and]
  rfl

/-- R156: a siding-scope cause makes the latched causes hold one. -/
theorem any_siding_latchInto {c : Cause} (h : isSiding c = true) (l : List Cause) : (latchInto c l).any isSiding = true := by
  refine List.any_eq_true.mpr ⟨c, (mem_latchInto c c l).mpr ⟨?_, .inl rfl⟩, h⟩
  rintro rfl
  exact Bool.noConfusion h

/-- R156: a local-scope cause changes nothing of the siding-scope ones. -/
theorem mem_latchInto_siding {c d : Cause} (h : isSiding c = false) (hd : isSiding d = true) (l : List Cause) :
    d ∈ latchInto c l ↔ d ∈ l := by
  have hne : d ≠ c := fun he => Bool.noConfusion (hd.symm.trans (he ▸ h))
  have hknown : d ≠ .unknown := fun he => by rw [he] at hd; exact Bool.noConfusion hd
  simp [mem_latchInto, hne, hknown]

theorem any_local_latchInto {c : Cause} (h : isSiding c = false) (l : List Cause) :
    (latchInto c l).any isSiding = l.any isSiding := by
  rw [Bool.eq_iff_iff, List.any_eq_true, List.any_eq_true]
  exact exists_congr fun d => and_congr_left fun hd => mem_latchInto_siding h hd l

theorem sidingSet_local_latch {c : Cause} (h : isSiding c = false) (u : TripUnit) :
    ({ u with latched := latchInto c u.latched } : TripUnit).sidingSet = u.sidingSet := by
  have hkeep : ∀ d, isSiding d = true → (latchInto c u.latched).contains d = u.latched.contains d := fun d hd => by
    rw [Bool.eq_iff_iff, List.contains_iff_mem, List.contains_iff_mem]
    exact mem_latchInto_siding h hd _
  simp only [TripUnit.sidingSet, hkeep .esd rfl, hkeep .gas rfl, hkeep .brk rfl, hkeep .drift rfl]

/-! ## Entries of the trip list (R156, R159 to R161, R164) -/

theorem any_originator (o : Nat) (l : List TripEntry) :
    l.any (fun e => e.originator == o) = decide (o ∈ l.map TripEntry.originator) := by
  rw [Bool.eq_iff_iff]
  simp

/-- The own entry after an entry of that originator is set. -/
theorem filter_setEntry_same (o : Nat) (cs : EntryCauses) {l : List TripEntry} {old : List EntryCauses}
    (h : l.filter (fun e => e.originator == o) = old.map (TripEntry.mk o)) (hone : old.length ≤ 1) :
    (setEntry o cs l).filter (fun e => e.originator == o) = [⟨o, cs⟩] := by
  unfold setEntry
  match old, hone with
  | [], _ =>
    have hno : ∀ e ∈ l, ¬ e.originator = o := by simpa using h
    have hany : l.any (fun e => e.originator == o) = false := by simpa using hno
    rw [if_neg (by simp [hany]), List.filter_append, h]
    simp
  | [x], _ =>
    have hany : l.any (fun e => e.originator == o) = true := by
      have hx : (⟨o, x⟩ : TripEntry) ∈ l.filter (fun e => e.originator == o) := by simp [h]
      exact List.any_eq_true.mpr ⟨_, (List.mem_filter.mp hx).1, by simp⟩
    have hkeep : ((fun e : TripEntry => e.originator == o) ∘
        fun e => if e.originator = o then { e with causes := cs } else e) = fun e => e.originator == o := by
      funext e
      simp only [Function.comp]
      split <;> rfl
    rw [if_pos hany, List.filter_map, hkeep, h]
    simp

/-- The entries of another originator stay as they are. -/
theorem filter_setEntry_other {o own : Nat} (hne : o ≠ own) (cs : EntryCauses) (l : List TripEntry) :
    (setEntry o cs l).filter (fun e => e.originator == own) = l.filter (fun e => e.originator == own) := by
  unfold setEntry
  split
  · have hkeep : ((fun e : TripEntry => e.originator == own) ∘
        fun e => if e.originator = o then { e with causes := cs } else e) = fun e => e.originator == own := by
      funext e
      simp only [Function.comp]
      split <;> rfl
    rw [List.filter_map, hkeep]
    refine (List.map_congr_left fun e he => ?_).trans (List.map_id _)
    have heq : e.originator = own := by simpa using (List.mem_filter.mp he).2
    rw [if_neg fun k => hne (k.symm.trans heq)]
    rfl
  · simp [List.filter_append, hne]

theorem setEntry_nodup {o : Nat} {cs : EntryCauses} {l : List TripEntry} (h : (l.map TripEntry.originator).Nodup) :
    ((setEntry o cs l).map TripEntry.originator).Nodup := by
  rw [setEntry_originators]
  split
  · exact h
  · rename_i hno
    exact List.nodup_append'.mpr ⟨h, List.nodup_singleton o, List.disjoint_singleton.mpr hno⟩

theorem setEntry_valid {o : Nat} {cs : EntryCauses} {l : List TripEntry} (ho : validSource o = true)
    (h : ∀ e ∈ l, validSource e.originator = true) : ∀ e ∈ setEntry o cs l, validSource e.originator = true := by
  intro e he
  have hmem : e.originator ∈ (setEntry o cs l).map TripEntry.originator := List.mem_map_of_mem he
  rw [setEntry_originators] at hmem
  have hcases : e.originator ∈ l.map TripEntry.originator ∨ e.originator = o := by
    split at hmem
    · exact .inl hmem
    · simpa using hmem
  rcases hcases with hold | hnew
  · obtain ⟨e', he', heq⟩ := List.mem_map.mp hold
    exact heq ▸ h e' he'
  · exact hnew ▸ ho

theorem validSource_of_isStation {a : Nat} (h : isStation a = true) : validSource a = true := by
  simp [validSource, h]

namespace TripUnit

variable {own : Nat} {u : TripUnit}

/-- R154, R156: a latching keeps the trip unit in agreement. -/
theorem Agrees.latch (h : u.Agrees own) (c : Cause) : (TripUnit.latch own c u).Agrees own := by
  obtain ⟨hown, hlatched, hnodup, hvalid, hout, hentry⟩ := h
  unfold TripUnit.latch
  cases hc : isSiding c with
  | false =>
    refine ⟨hown, latchInto_ordered c u.latched, hnodup, hvalid, ?_, ?_⟩
    · rw [if_neg (by simp)]
      exact hout.trans (any_local_latchInto hc _).symm
    · simpa [sidingSet_local_latch hc u] using hentry
  | true =>
    refine ⟨hown, latchInto_ordered c u.latched, setEntry_nodup hnodup,
      setEntry_valid (validSource_of_isStation hown) hvalid, (any_siding_latchInto hc _).symm, ?_⟩
    refine filter_setEntry_same own _ (old := if u.outstanding then [.known u.sidingSet] else []) ?_ ?_
    · rw [hentry]
      split <;> rfl
    · split <;> simp

/-- R159, R161: the entry of another originator is set. -/
theorem Agrees.setRemote (h : u.Agrees own) {o : Nat} (hne : o ≠ own) (ho : validSource o = true) (cs : EntryCauses) :
    ({ u with list := setEntry o cs u.list } : TripUnit).Agrees own := by
  obtain ⟨hown, hlatched, hnodup, hvalid, hout, hentry⟩ := h
  exact ⟨hown, hlatched, setEntry_nodup hnodup, setEntry_valid ho hvalid, hout,
    (filter_setEntry_other hne cs u.list).trans hentry⟩

/-- R160, R161, R165: entries of other originators leave the list. -/
theorem Agrees.filterRemote (h : u.Agrees own) {keep : TripEntry → Bool}
    (hkeep : ∀ e : TripEntry, e.originator = own → keep e = true) :
    ({ u with list := u.list.filter keep } : TripUnit).Agrees own := by
  obtain ⟨hown, hlatched, hnodup, hvalid, hout, hentry⟩ := h
  refine ⟨hown, hlatched, hnodup.sublist (List.filter_sublist.map _), fun e he => hvalid e (List.mem_filter.mp he).1, hout, ?_⟩
  rw [List.filter_filter]
  refine Eq.trans (List.filter_congr fun e _ => ?_) hentry
  cases he : e.originator == own with
  | false => rfl
  | true => simp [hkeep e (by simpa using he)]

end TripUnit

/-! ## New ticket numbers (R169) -/

/-- R169: the numbers run through 1 to 65535 in a circle. -/
theorem nextTicket_iterate {n : Nat} (h1 : 1 ≤ n) (h2 : n ≤ 65535) (j : Nat) :
    nextTicket^[j] n = (n - 1 + j) % 65535 + 1 := by
  induction j with
  | zero => rw [Function.iterate_zero, id]; omega
  | succ j ih =>
    rw [Function.iterate_succ_apply', ih, nextTicket]
    split <;> omega

/-- R169: the number found is that after some skips, all of them taken, and it is taken itself only where the skips are
used up. -/
theorem freeNumber_spec (store : List Ticket) (n k : Nat) : ∃ j ≤ k, freeNumber store n k = nextTicket^[j] n ∧
    (∀ i < j, nextTicket^[i] n ∈ store.map Ticket.number) ∧
    (freeNumber store n k ∈ store.map Ticket.number → j = k) := by
  induction k generalizing n with
  | zero => exact ⟨0, le_rfl, rfl, fun i hi => absurd hi (Nat.not_lt_zero i), fun _ => rfl⟩
  | succ k ih =>
    by_cases hn : n ∈ store.map Ticket.number
    · have hstep : freeNumber store n (k + 1) = freeNumber store (nextTicket n) k := by
        rw [freeNumber, if_pos (by simpa using hn)]
      obtain ⟨j, hj, heq, htaken, hend⟩ := ih (nextTicket n)
      rw [hstep]
      refine ⟨j + 1, by omega, heq, fun i hi => ?_, fun hm => congrArg (· + 1) (hend hm)⟩
      cases i with
      | zero => exact hn
      | succ i => exact htaken i (by omega)
    · have hstep : freeNumber store n (k + 1) = n := by
        rw [freeNumber, if_neg (by simpa using hn)]
      rw [hstep]
      exact ⟨0, Nat.zero_le _, rfl, fun i hi => absurd hi (Nat.not_lt_zero i), fun hm => absurd hm hn⟩

/-- R169: as many skips as there are closed tickets find a free number. -/
theorem freeNumber_free {store : List Ticket} {n : Nat} (h1 : 1 ≤ n) (h2 : n ≤ 65535) (hlen : store.length < 65535) :
    freeNumber store n store.length ∉ store.map Ticket.number := by
  intro hm
  obtain ⟨j, hj, heq, htaken, hend⟩ := freeNumber_spec store n store.length
  obtain rfl := hend hm
  have hall : ∀ i ∈ Finset.range (store.length + 1), nextTicket^[i] n ∈ (store.map Ticket.number).toFinset := by
    intro i hi
    rw [List.mem_toFinset]
    rcases Nat.lt_succ_iff_lt_or_eq.mp (Finset.mem_range.mp hi) with hlt | rfl
    · exact htaken i hlt
    · exact heq ▸ hm
  have hinj : Set.InjOn (fun i => nextTicket^[i] n) (Finset.range (store.length + 1)) := by
    intro a ha b hb hab
    simp only [Finset.coe_range, Set.mem_Iio] at ha hb
    simp only [nextTicket_iterate h1 h2] at hab
    omega
  have hcard := Finset.card_le_card_of_injOn _ hall hinj
  have hle := List.toFinset_card_le (store.map Ticket.number)
  rw [Finset.card_range] at hcard
  rw [List.length_map] at hle
  omega

theorem nextTicket_range {n : Nat} (h : n ≤ 65535) : 1 ≤ nextTicket n ∧ nextTicket n ≤ 65535 := by
  unfold nextTicket
  split <;> omega

theorem freeNumber_range {n : Nat} (h1 : 1 ≤ n) (h2 : n ≤ 65535) (store : List Ticket) (k : Nat) :
    1 ≤ freeNumber store n k ∧ freeNumber store n k ≤ 65535 := by
  obtain ⟨j, _, heq, _⟩ := freeNumber_spec store n k
  rw [heq, nextTicket_iterate h1 h2]
  omega

/-- R169: the new ticket's number is its own, and so is the next. -/
theorem TicketUnit.Numbered.openTicket {u : TicketUnit} (h : u.Numbered) (hnone : u.current = none)
    (hlen : u.store.length ≤ 4) (station : Nat) (identity : List Byte) : (u.openTicket station identity).Numbered := by
  obtain ⟨hnodup, hrange, h1, h2⟩ := h
  have hstore : u.numbers = u.store.map Ticket.number := by simp [TicketUnit.numbers, hnone]
  rw [hstore] at hnodup hrange
  have hnew : (u.openTicket station identity).numbers =
      u.store.map Ticket.number ++ [freeNumber u.store u.nextNumber u.store.length] := by
    simp [TicketUnit.numbers, TicketUnit.openTicket]
  have hfree := freeNumber_free (store := u.store) h1 h2 (by omega)
  have hin := freeNumber_range h1 h2 u.store u.store.length
  refine ⟨?_, ?_, nextTicket_range hin.2⟩
  · rw [hnew]
    exact List.nodup_append'.mpr ⟨hnodup, List.nodup_singleton _, List.disjoint_singleton.mpr hfree⟩
  · rw [hnew]
    intro n hn
    rcases List.mem_append.mp hn with hn | hn
    · exact hrange n hn
    · exact List.mem_singleton.mp hn ▸ hin

end Sys2Proof.Machine
end


section
/-!
PROOFS. The moves of the shared operations and of the works of a sample event.
-/

namespace Sys2Proof.Machine

open Sys2Proof

variable {c : Instr} {s t : State}

/-! ## Calm moves and moves of the line -/

theorem Calm.moves (h : Calm s t) : Moves c s t := .single (.calm h)

theorem Calm.of_onInput (f : InputUnit → InputUnit) (s : State) : Calm s (s.onInput f) := {}

theorem State.calm_note (k : NoteKind) (v : Nat) (s : State) : Calm s (s.note k v) where
  ticket := { current := OpenGrows.map _ (Ticket.grows_addNote _) _ }

theorem State.calm_setTempCode (code : Code) (s : State) : Calm s (s.setTempCode code) := {}

/-- The line controller moves within its state. -/
theorem State.moves_onLine (f : LineController → LineController) (hstate : (f s.line).state = s.line.state)
    (h : s.line.Ordered s.ticket.series → (f s.line).Ordered s.ticket.series) : Moves c s (s.onLine f) :=
  .single (.line (f s.line) s.ticket.series (by rw [hstate]) (fun hs => hstate.trans hs) h)

/-- The line controller moves from one of its working states to another. -/
theorem State.moves_onLine_state (f : LineController → LineController) (hs : s.line.takesRequests = true)
    (ht : (f s.line).takesRequests = true) (h : s.line.Ordered s.ticket.series → (f s.line).Ordered s.ticket.series) :
    Moves c s (s.onLine f) := by
  simp only [LineController.takesRequests, Bool.and_eq_true, bne_iff_ne] at hs ht
  exact .single (.line (f s.line) s.ticket.series (iff_of_false ht.1 hs.1) (fun k => absurd k hs.2) h)

theorem State.moves_promptTest (s : State) : Moves c s s.promptTest := by
  unfold State.promptTest
  split
  · exact State.moves_onLine _ (LineController.prompt_state _ _) (fun h => h.prompt _)
  · exact .refl

theorem State.moves_promptOnMove (before : Pools Nat) (s : State) : Moves c s (s.promptOnMove before) := by
  unfold State.promptOnMove
  split
  · exact .refl
  · exact s.moves_promptTest

/-! ## Steps within a phase, and changes between the phases that have a ticket open -/

/-- R81: the steps of the phase change and the valves are commanded for them. -/
theorem State.moves_restep (f : Sequence → Sequence) (hphase : (f s.seq).phase = s.seq.phase)
    (hheld : (f s.seq).held = s.seq.held) (hreason : (f s.seq).reason = s.seq.reason) :
    Moves c s (s.onSeq f).applyCommands :=
  .single (.drive (f s.seq) _ hphase hheld hreason fun _ => (s.onSeq f).interlocked_applyCommands)

theorem State.moves_endShutting (s : State) : Moves c s s.endShutting := by
  unfold State.endShutting
  split
  · exact State.moves_restep _ rfl rfl rfl
  · exact .refl

theorem TripsAgree.not_tripped (h : TripsAgree s) (hp : s.seq.phase ≠ .tripped) : s.trip.tripped = false := by
  obtain ⟨_, _, htripped⟩ := (tripsAgree_iff s).mp h
  exact Bool.eq_false_iff.mpr fun k => hp (htripped k)

theorem Sequence.HoldFits.reason_none {p : Phase} {b : Bool} {q : Sequence} (h : q.HoldFits p b) (hp : p ≠ .hold) :
    q.reason = none :=
  Option.not_isSome_iff_eq_none.mp fun k => hp (h.1.mpr k)

theorem Phase.hasTicket_elim {p : Phase} (h : p.hasTicket = true) : p ≠ .offline ∧ p ≠ .check ∧ p ≠ .tripped := by
  cases p <;> simp_all [Phase.hasTicket]

/-- R174: between two phases that have a ticket open, the ticket unit is left as it is. -/
theorem State.moves_shift (f : Sequence → Sequence) (p : Phase) (hs : s.seq.phase.hasTicket = true)
    (hp : p.hasTicket = true) (hphase : (f s.seq).phase = s.seq.phase)
    (hhold : s.seq.HoldFits s.seq.phase s.ticketOpen → (f s.seq).HoldFits p s.ticketOpen) :
    Moves c s ((s.onSeq f).enterPhase p) := by
  obtain ⟨hoffline, hcheck, htripped⟩ := Phase.hasTicket_elim hs
  obtain ⟨hoffline', hcheck', htripped'⟩ := Phase.hasTicket_elim hp
  refine .single (.enter _ p ?_)
  exact {
    phase := hphase
    awake := .inl hoffline
    target := hoffline'
    check := fun h => h.trans (iff_of_false hcheck hcheck')
    hold := fun _ => hhold
    tickets := fun h => ⟨fun _ => h.1 hs, fun _ => .inl hp, h.2.2.1, fun _ => h.2.2.2 (.inr (h.1 hs))⟩
    tripped := fun h _ => h.not_tripped htripped
    leaves := fun h => absurd h htripped }

/-- R27, R30, R33: a hold of a phase that has a ticket open. -/
theorem State.moves_enterHold (held : HeldPhase) (reason : HoldReason) (hs : s.seq.phase.hasTicket = true) :
    Moves c s (s.enterHold (some held) reason) :=
  (s.calm_note .hold reason.code).moves.trans
    (State.moves_shift (s := s.note .hold reason.code) (fun q => { q with
      held := some held, reason := some reason, residual := 0, recoveryTimer := none }) .hold hs rfl rfl
      (fun _ => ⟨iff_of_true rfl rfl, fun _ => rfl, fun _ _ => rfl⟩))

section

variable (g : Sequence → Sequence) (hs : s.seq.phase.hasTicket = true) (hphase : (g s.seq).phase = s.seq.phase)
  (hreason : s.seq.HoldFits s.seq.phase s.ticketOpen → (g s.seq).reason = none)

include hs hphase hreason

/-- A phase other than "HOLD" is entered with no hold reason. -/
theorem State.moves_unheld (f : Sequence → Sequence) (p : Phase) (hp : p.hasTicket = true) (hne : p ≠ .hold)
    (hf : (f (g s.seq)).phase = (g s.seq).phase) (hr : (f (g s.seq)).reason = (g s.seq).reason) :
    Moves c s (((s.onSeq g).onSeq f).enterPhase p) :=
  State.moves_shift (fun q => f (g q)) p hs hp (hf.trans hphase) fun h =>
    ⟨iff_of_false hne (by simp [hr, hreason h]), fun k => absurd k hne,
      fun k => absurd k (Phase.hasTicket_elim hp).2.2⟩

theorem State.moves_enterDrain : Moves c s (s.onSeq g).enterDrain :=
  State.moves_unheld g hs hphase hreason (fun q => { q with drainStep := .draining, drainTimer := some 0 }) .drain rfl
    (by decide) rfl rfl

theorem State.moves_enterRecover : Moves c s (s.onSeq g).enterRecover :=
  State.moves_unheld g hs hphase hreason (fun q => { q with residual := 0, recoveryTimer := some 0 }) .recover rfl
    (by decide) rfl rfl

theorem State.moves_enterClose : Moves c s (s.onSeq g).enterClose :=
  (State.moves_unheld g hs hphase hreason (fun q => { q with
      closeStep := .shutting, bleedTimer := none, drainTimer := none, recoveryTimer := none }) .close rfl
    (by decide) rfl rfl).trans (State.moves_endShutting _)

theorem State.moves_resumePhase (h : HeldPhase) : Moves c s ((s.onSeq g).resumePhase h) := by
  cases h with
  | push => exact State.moves_unheld g hs hphase hreason id .push rfl (by decide) rfl rfl
  | drain => exact State.moves_enterDrain g hs hphase hreason
  | recover => exact State.moves_enterRecover g hs hphase hreason
  | close => exact State.moves_enterClose g hs hphase hreason

end

theorem State.moves_endDrain (hp : s.seq.phase = .drain) : Moves c s s.endDrain := by
  have hs : s.seq.phase.hasTicket = true := by simp [hp, Phase.hasTicket]
  have hreason : s.seq.HoldFits s.seq.phase s.ticketOpen → s.seq.reason = none := fun h => h.reason_none (by simp [hp])
  unfold State.endDrain
  split
  · exact State.moves_enterRecover id hs rfl hreason
  · exact State.moves_enterClose id hs rfl hreason

/-- R31 (3), R32: the end of "CLOSE". -/
theorem State.moves_endReleasing (s : State) : Moves c s s.endReleasing := by
  unfold State.endReleasing
  split
  · rename_i h
    obtain ⟨hp, _⟩ := h
    refine .single (.enter _ .idle ?_)
    exact {
      series := TicketUnit.closeTicket_series _ _ _
      awake := .inl (by simp [hp])
      check := fun h => h.trans (by simp [hp])
      hold := fun _ _ => by simp [Sequence.HoldFits]
      tickets := fun h => h.closeTicket _ _ rfl (by decide)
      numbers := fun _ h => h.closeTicket _ _
      flow := fun _ => TicketUnit.flow_closeTicket _ _ _
      tripped := fun h _ => h.not_tripped (by simp [hp])
      leaves := fun h => absurd (hp.symm.trans h) (by decide) }
  · exact .refl

theorem State.moves_closeUncoupled (s : State) : Moves c s s.closeUncoupled := by
  rcases s.closeUncoupled_cases with ⟨h, _⟩ | ⟨h, hp, ho, _⟩ <;> rw [h]
  exact .single (.closes hp ho)

/-! ## Trips -/

/-- R37: the held phase of an entry is set where the phase has a ticket open. -/
theorem heldAtTrip_isSome {p : Phase} {held : Option HeldPhase} (hp : p.hasTicket = true)
    (hh : p = .hold → held.isSome = true) : (heldAtTrip p held).isSome = true := by
  cases p <;> simp_all [heldAtTrip, Phase.hasTicket]

theorem State.abandonCheck_step (s : State) (h : s.check.step ≠ .inactive ↔ s.seq.phase = .check) :
    s.abandonCheck.check.step = .inactive := by
  unfold State.abandonCheck
  split
  · rfl
  · rename_i hp
    exact Decidable.not_not.mp (mt h.mp hp)

theorem State.abandonCheck_nothing (s : State) (h : NothingDetected s) : NothingDetected s.abandonCheck := by
  unfold State.abandonCheck
  split
  · exact h
  · exact h

/-- R37: the trip unit changes, and the entry into "TRIPPED" is made where the phase asks for one. -/
theorem State.moves_tripEntry (u : TripUnit) (cause : Cause) (originator : Nat) (ha : s.awake)
    (hagrees : s.trip.Agrees s.loader.ownAddress → u.Agrees s.loader.ownAddress)
    (hconflict : .conflict ∈ s.trip.latched → .conflict ∈ u.latched) :
    Moves c s ((s.onTrip (fun _ => u)).tripEntry cause originator) := by
  unfold State.tripEntry
  split
  · rename_i h
    refine .single (.trips u ha hagrees hconflict fun hoff htr => ?_)
    exact absurd h (not_or.mpr ⟨hoff, htr⟩)
  · rename_i h
    obtain ⟨_, htr⟩ := not_or.mp h
    refine Relation.ReflTransGen.trans (.single (.enter ((s.onTrip (fun _ => u)).abandonCheck.onSeq (fun q => { q with
      held := heldAtTrip q.phase q.held
      reason := none
      drainTimer := none
      recoveryTimer := none
      bleedTimer := none
      residual := 0 })) .tripped ?_)) ?_
    · exact {
        resetting := by simp
        loader := by simp
        peers := by simp
        line := by simp
        share := by simp
        phase := by simp
        series := by simp
        awake := ha
        quiet := fun _ hn => (s.onTrip (fun _ => u)).abandonCheck_nothing hn
        check := fun hc => by simpa using (s.onTrip (fun _ => u)).abandonCheck_step hc
        hold := fun hfits hhold => by
          refine ⟨iff_of_false (by decide) (by simp), fun k => absurd k (by decide), fun _ ho => ?_⟩
          have hopen : s.ticket.current.isSome = true := by simpa [State.ticketOpen] using ho
          have hhas := (hfits.2.1 hopen).resolve_right htr
          simpa using heldAtTrip_isSome hhas hhold.2.1
        tickets := fun hfits => by
          simpa [TicketUnit.Fits, Phase.hasTicket] using And.intro hfits.2.2.1 (fun k => hfits.2.2.2 (.inr k))
        numbers := fun _ hn => by simpa using hn
        flow := fun _ => by simpa using TicketFlow.refl _
        trips := by simpa using hagrees
        conflict := by simpa using hconflict
        tripped := fun _ k => absurd rfl k
        leaves := fun _ k => absurd rfl k }
    · exact (State.calm_setTempCode _ _).moves.trans
        ((State.calm_note _ _ _).moves.trans (State.moves_closeUncoupled _))

theorem State.moves_latch (cause : Cause) (s : State) : Moves c s (s.latch cause) := by
  rcases s.latch_cases cause with ⟨h, _⟩ | ⟨hp, _, h⟩
  · rw [h]
  · rw [h]
    have hline : Moves c s (s.onLine (fun l => if isSiding cause then l.queueTrip else l)) := by
      refine State.moves_onLine _ ?_ fun hord => ?_
      · split <;> simp
      · split
        · exact hord.queueTrip
        · exact hord
    refine hline.trans (State.moves_tripEntry (TripUnit.latch s.loader.ownAddress cause s.trip) cause _ (.inl hp)
      (fun h => h.latch cause) fun hconflict => ?_)
    have hmem : ∀ d, d ∈ (TripUnit.latch s.loader.ownAddress cause s.trip).latched ↔ d ∈ latchInto cause s.trip.latched := by
      intro d
      unfold TripUnit.latch
      dsimp only
      split <;> rfl
    exact (hmem _).mpr ((mem_latchInto _ _ _).mpr ⟨by decide, .inr hconflict⟩)

theorem State.moves_addRemote {o : Nat} (cs : EntryCauses) (ha : s.awake) (hne : o ≠ s.loader.ownAddress)
    (ho : validSource o = true) : Moves c s (s.addRemote o cs) := by
  unfold State.addRemote
  split
  · exact State.moves_tripEntry { s.trip with list := setEntry o cs s.trip.list } _ _ ha
      (fun h => h.setRemote hne ho cs) id
  · rename_i hlist
    refine .single (.trips { s.trip with list := setEntry o cs s.trip.list } ha (fun h => h.setRemote hne ho cs) id
      fun _ _ _ => ?_)
    simp [TripUnit.tripped, hlist]

/-- R160, R161, R165: remote entries leave the list. -/
theorem State.moves_filterRemote (keep : TripEntry → Bool) (ha : s.awake)
    (hkeep : ∀ e : TripEntry, e.originator = s.loader.ownAddress → keep e = true) :
    Moves c s (s.onTrip (fun t => { t with list := t.list.filter keep })) := by
  refine .single (.trips { s.trip with list := s.trip.list.filter keep } ha (fun h => h.filterRemote hkeep) id
    fun _ _ hu => ?_)
  simp only [TripUnit.tripped, Bool.or_eq_true, Bool.not_eq_true', List.isEmpty_eq_false_iff] at hu ⊢
  refine hu.imp_left fun hne hnil => hne ?_
  rw [hnil, List.filter_nil]

/-! ## What the reports of a sample event do -/

theorem State.moves_confirmLiquidOut (s : State) : Moves c s s.confirmLiquidOut := by
  unfold State.confirmLiquidOut
  split
  · rename_i hp
    have hdet : Calm (s.note .empty 0) ((s.note .empty 0).onDet DetectorUnit.liquidAgain) := {
      quiet := fun hne => absurd hp hne }
    refine (s.calm_note .empty 0).moves.trans (hdet.moves.trans ?_)
    exact State.moves_enterDrain (s := (s.note .empty 0).onDet DetectorUnit.liquidAgain) id (by simp [hp, Phase.hasTicket])
      rfl (fun h => h.reason_none (by simp [hp]))
  · exact .refl

theorem State.moves_raiseThrottle (s : State) : Moves c s s.raiseThrottle := by
  have hdet : Calm s (s.onDet (fun d => { d with throttle := d.throttle + 1, clearTimer := some 0 })) := {}
  exact hdet.moves.trans ((State.calm_note _ _ _).moves.trans (State.moves_promptOnMove _ _))

theorem State.moves_lowerThrottle (s : State) : Moves c s s.lowerThrottle := by
  have hdet : Calm s (s.onDet (fun d => { d with
      throttle := d.throttle - 1, clearTimer := if 1 < d.throttle then some 0 else none })) := {}
  exact hdet.moves.trans ((State.calm_note _ _ _).moves.trans (State.moves_promptOnMove _ _))

theorem State.moves_flashingHold (s : State) : Moves c s s.flashingHold := by
  unfold State.flashingHold
  split
  · rename_i hp
    exact State.moves_enterHold .push .flashing (by simp [hp, Phase.hasTicket])
  · exact .refl

theorem State.moves_lvConfirmedClosed (s : State) : Moves c s s.lvConfirmedClosed := by
  unfold State.lvConfirmedClosed
  split
  · rename_i h
    exact State.moves_endDrain h.1
  · exact .refl

theorem State.moves_takeReport (r : SampleReport) (s : State) : Moves c s (s.takeReport r) := by
  cases r with
  | cause k => exact s.moves_latch k
  | confirm => exact s.moves_confirmLiquidOut
  | throttle => exact s.moves_raiseThrottle
  | hold => exact s.moves_flashingHold
  | lvClosed => exact s.moves_lvConfirmedClosed
  | allClosed => exact s.moves_endShutting

end Sys2Proof.Machine
end


section
/-!
PROOFS. The moves of a sample event: the blocks' works, the taking of reports, and the turns.
-/

namespace Sys2Proof.Machine

open Sys2Proof

variable {c : Instr} {s : State}

/-! ## The check unit (chapter 3) -/

/-- R174: a phase that can have no ticket open has none. -/
theorem TicketUnit.Fits.current_none {p : Phase} {u : TicketUnit} (h : u.Fits p) (hp : p.hasTicket = false)
    (ht : p ≠ .tripped) : u.current.isSome = false :=
  Bool.eq_false_iff.mpr fun k => (h.2.1 k).elim (fun hhas => Bool.noConfusion (hp.symm.trans hhas)) ht

/-- R174: with no ticket open the unit stands for every phase without one. -/
theorem TicketUnit.fits_of_none {p : Phase} {u : TicketUnit} (hnone : u.current.isSome = false) (hlen : u.store.length ≤ 4)
    (hp : p.hasTicket = false) (hc : p ≠ .check) : u.Fits p := by
  simp [TicketUnit.Fits, hnone, hlen, hp, hc]

/-- R49, R52, R55: a check that ends without a pass leads back to "IDLE". -/
theorem State.moves_endCheck (hp : s.seq.phase = .check) : Moves c s s.dropCheck.enterIdle := by
  refine .single (.enter _ .idle ?_)
  exact {
    awake := .inl (by simp [hp])
    check := fun _ => by simp [CheckUnit.reset]
    hold := fun _ _ => by simp [Sequence.HoldFits]
    tickets := fun h =>
      TicketUnit.fits_of_none (h.current_none (by simp [hp, Phase.hasTicket]) (by simp [hp])) h.2.2.1 rfl (by decide)
    tripped := fun h _ => h.not_tripped (by simp [hp])
    leaves := fun h => absurd (hp.symm.trans h) (by decide) }

theorem State.moves_failCheck (code : Code) (hp : s.seq.phase = .check) : Moves c s (s.failCheck code) :=
  (State.moves_endCheck hp).trans (State.calm_setTempCode _ _).moves

theorem State.moves_checkWork (s : State) : Moves c s s.checkWork.1 := by
  unfold State.checkWork
  split
  · exact .refl
  · rename_i h
    obtain ⟨hp, _⟩ := not_or.mp h
    have hphase : s.seq.phase = .check := Decidable.not_not.mp hp
    split
    · exact State.moves_failCheck .fa hphase
    · split
      · rename_i hstep
        unfold State.baselineSample
        dsimp only
        split
        · exact State.moves_failCheck .fb hphase
        · split
          · exact Calm.moves { check := Iff.rfl }
          · exact Calm.moves { check := iff_of_false (by simp [CheckUnit.complete]) (by simp [hstep]) }
      · exact .refl

/-! ## The detector unit (chapter 4) -/

/-- R59: the liquid-out detector runs in "PUSH" alone. -/
structure DetectorUnit.SameLiquid (d e : DetectorUnit) : Prop where
  stage : e.stage = d.stage
  lowCount : e.lowCount = d.lowCount
  confirmTimer : e.confirmTimer = d.confirmTimer

theorem DetectorUnit.SameLiquid.trans {a b d : DetectorUnit} (h : a.SameLiquid b) (g : b.SameLiquid d) : a.SameLiquid d :=
  ⟨g.stage.trans h.stage, g.lowCount.trans h.lowCount, g.confirmTimer.trans h.confirmTimer⟩

theorem State.excessJudge_liquid (s : State) (d : DetectorUnit) : d.SameLiquid (s.excessJudge d) := by
  unfold State.excessJudge
  split <;> exact ⟨rfl, rfl, rfl⟩

theorem State.surgeOpen_liquid (s : State) (d : DetectorUnit) : d.SameLiquid (s.surgeOpen d) := by
  unfold State.surgeOpen
  split <;> exact ⟨rfl, rfl, rfl⟩

theorem State.surgeEnd_liquid (s : State) (d : DetectorUnit) : d.SameLiquid (s.surgeEnd d) := by
  unfold State.surgeEnd
  split_ifs <;> exact ⟨rfl, rfl, rfl⟩

theorem State.surgeJudge_liquid (s : State) (d : DetectorUnit) : d.SameLiquid (s.surgeJudge d) :=
  ((s.surgeOpen_liquid d).trans (s.surgeEnd_liquid _)).trans ⟨rfl, rfl, rfl⟩

theorem State.flashJudge_liquid (s : State) (d : DetectorUnit) : d.SameLiquid (s.flashJudge d) := by
  unfold State.flashJudge
  split <;> exact ⟨rfl, rfl, rfl⟩

theorem State.transferJudge_liquid (h : s.seq.phase ≠ .push) (d : DetectorUnit) : d.SameLiquid (s.transferJudge d) := by
  unfold State.transferJudge
  split
  · exact absurd (by assumption) h
  · exact (s.excessJudge_liquid d).trans (s.surgeJudge_liquid _)
  · exact ⟨rfl, rfl, rfl⟩

theorem NothingDetected.of_sameLiquid {d : DetectorUnit} (hd : s.det.SameLiquid d) (h : NothingDetected s) :
    NothingDetected (s.onDet (fun _ => d)) := by
  obtain ⟨h1, h2, h3, h4⟩ := h
  exact ⟨hd.stage.trans h1, hd.lowCount.trans h2, hd.confirmTimer.trans h3, h4⟩

theorem State.moves_detectorWork (fresh : Bool) (s : State) : Moves c s (s.detectorWork fresh).1 := by
  unfold State.detectorWork
  split
  · exact Calm.moves {
      quiet := fun hp hn => hn.of_sameLiquid (s.transferJudge_liquid hp s.det) }
  · exact Calm.moves {
      quiet := fun hp hn => hn.of_sameLiquid ((s.transferJudge_liquid hp s.det).trans ⟨rfl, rfl, rfl⟩) }

/-! ## The valve driver (chapter 5) -/

theorem slewTo_le (limit target opening : Nat) : slewTo limit target opening ≤ target := by
  unfold slewTo
  split <;> omega

theorem State.moves_moveValves (s : State) : Moves c s s.moveValves := by
  refine .single (.drive s.seq (s.valve.drive s.cfg.slewLimit s.svWanted s.rvWanted) rfl rfl rfl fun h => ?_)
  obtain ⟨hlv, hbv, _⟩ := h
  exact ⟨hlv, hbv, slewTo_le _ _ _, s.svWanted_le, slewTo_le _ _ _, s.rvWanted_le,
    fun h => by_contra fun hp => h (s.svWanted_zero hp), fun h => by_contra fun hp => h (s.rvWanted_zero hp)⟩

theorem State.calm_stepTrim (s : State) : Calm s s.stepTrim := by
  unfold State.stepTrim
  split <;> exact {}

theorem State.calm_superviseValves (s : State) : Calm s s.superviseValves.1 := {}

theorem State.moves_valveWork (s : State) : Moves c s s.valveWork.1 := by
  unfold State.valveWork
  split
  · exact .refl
  · split
    · exact s.calm_superviseValves.moves
    · exact s.calm_stepTrim.moves.trans ((State.moves_moveValves _).trans (State.calm_superviseValves _).moves)

/-! ## The share unit (chapter 8) -/

theorem orNothing_le (m g : Nat) : orNothing m g ≤ g := by
  unfold orNothing
  split <;> omega

theorem orNothing_zero (m : Nat) : orNothing m 0 = 0 := by
  unfold orNothing
  split <;> rfl

/-- R141 to R143: a computed grant is within its bounds. -/
theorem State.bounded_computeShares (s : State) : s.computeShares.share.Bounded s.cfg s.seq.phase := by
  intro p
  have hgrant : s.computeShares.share.grant.get p = s.grantOf p (s.ownShare p) := Pools.get_of _ p
  have hshare : s.computeShares.share.share.get p = s.ownShare p := Pools.get_of _ p
  have hisland : s.computeShares.share.island = s.share.island := rfl
  rw [hgrant, hshare, hisland]
  cases hd : s.seq.phase.draws p with
  | false => simp [State.grantOf_of_not_draws _ hd]
  | true =>
    refine ⟨fun k => absurd k (by simp), fun hj => ?_, fun hi => ?_, ?_⟩
    · rw [State.grantOf_of_joined _ hd hj]
      exact (orNothing_le _ _).trans (min_le_left _ _)
    · rw [State.grantOf_of_island _ hd hi]
      exact (orNothing_le _ _).trans ((min_le_left _ _).trans (min_le_right _ _))
    · cases hi : s.share.island with
      | joined =>
        rw [State.grantOf_of_joined _ hd hi]
        exact (orNothing_le _ _).trans (min_le_right _ _)
      | island =>
        rw [State.grantOf_of_island _ hd hi]
        exact (orNothing_le _ _).trans (min_le_right _ _)

theorem State.moves_judgeStarvation (s : State) : Moves c s s.judgeStarvation := by
  by_cases hp : s.seq.phase = .push
  · have hidle : Calm s (s.onShare (fun u => { u with starvation := none })) := { quiet := fun hne => absurd hp hne }
    have hstarts : Calm s (s.onShare (fun u => { u with starvation := some 0 })) := { quiet := fun hne => absurd hp hne }
    rcases s.judgeStarvation_cases with h | h | h <;> rw [h]
    · exact hidle.moves
    · exact hstarts.moves.trans (State.calm_note _ _ _).moves
  · rw [State.judgeStarvation_of_not_push hp]

theorem State.moves_shareWork (s : State) : Moves c s s.shareWork :=
  Relation.ReflTransGen.trans (.single (.grants s.computeShares.share rfl (fun _ => s.bounded_computeShares)))
    (State.moves_judgeStarvation s.computeShares)

/-! ## The ticket unit (chapter 10) -/

theorem State.moves_meterNote (s : State) : Moves c s s.meterNote := by
  unfold State.meterNote
  split
  · exact (State.calm_note _ _ _).moves.trans (Calm.moves { ticket := {} })
  · exact .refl

theorem State.moves_ticketWork (s : State) : Moves c s s.ticketWork := by
  have hmeter : Calm s (s.onTicket (fun t => { t with current := t.current.map (Ticket.meter s.cfg s.input) })) := {
    ticket := { current := OpenGrows.map _ (Ticket.grows_meter _ _) _ } }
  exact hmeter.moves.trans (State.moves_meterNote _)

/-! ## The sequence controller (chapter 2) -/

theorem State.moves_residualWork (s : State) : Moves c s s.residualWork := by
  unfold State.residualWork
  split
  · rename_i hp
    split
    · split
      · exact Calm.moves {}
      · exact (s.calm_note .empty 1).moves.trans
          (State.moves_enterClose (s := s.note .empty 1) (fun q => { q with residual := 5 }) (by simp [hp, Phase.hasTicket])
            rfl (fun h => h.reason_none (by simp [hp])))
    · exact Calm.moves {}
  · exact .refl

theorem State.moves_armsWork (s : State) : Moves c s s.armsWork :=
  s.moves_endReleasing.trans (State.moves_closeUncoupled _)

/-! ## The panel (sections 2.3 and 9.6) -/

/-- R22 (5): a START that is not refused finds room in the store. -/
theorem State.room_of_start (h : s.startRefusal = none) : s.ticket.store.length ≤ 3 := by
  by_contra hfull
  unfold State.startRefusal at h
  split_ifs at h
  omega

theorem State.moves_startInIdle (hp : s.seq.phase = .idle) : Moves c s s.startInIdle := by
  unfold State.startInIdle
  split
  · exact (State.calm_setTempCode _ _).moves
  · rename_i hstart
    refine .single (.enter _ .check ?_)
    exact {
      awake := .inl (by simp [hp])
      check := fun _ => iff_of_true (by simp [State.beginCheck]) rfl
      hold := fun _ h => ⟨iff_of_false (by decide) (by simpa [State.beginCheck] using h.reason_none (by simp [hp])), fun k => absurd k (by decide),
        fun k => absurd k (by decide)⟩
      tickets := fun h => by
        have hroom := State.room_of_start hstart
        have hnone := h.current_none (by simp [hp, Phase.hasTicket]) (by simp [hp])
        exact ⟨fun k => absurd k (by decide), fun k => absurd (hnone.symm.trans k) (by decide), hroom.trans (by decide),
          fun _ => hroom⟩
      tripped := fun h _ => h.not_tripped (by simp [hp])
      leaves := fun h => absurd (hp.symm.trans h) (by decide) }

theorem State.moves_startInHold (hp : s.seq.phase = .hold) : Moves c s s.startInHold := by
  unfold State.startInHold
  split
  · exact .refl
  · exact (s.calm_note _ _).moves.trans (State.moves_resumePhase (s := s.note _ _) (fun q => { q with
      held := none, reason := none }) (by simp [hp, Phase.hasTicket]) rfl (fun _ => rfl) _)

theorem State.moves_stopInHold (hp : s.seq.phase = .hold) : Moves c s s.stopInHold :=
  State.moves_enterClose (fun q => { q with stopped := true, held := none, reason := none })
    (by simp [hp, Phase.hasTicket]) rfl (fun _ => rfl)

/-- R164: the trip unit after a taken RESET, as the station has an own entry or not. -/
def State.clearedTrips (s : State) : TripUnit :=
  if s.ownEntry then { latched := [], outstanding := false, list := removeEntry s.loader.ownAddress s.trip.list }
  else { s.trip with latched := [] }

theorem State.clearTrips_eq (s : State) : s.clearTrips =
    (s.onLine (fun l => if s.ownEntry then l.queueClear else l)).onTrip (fun _ => s.clearedTrips) := by
  unfold State.clearTrips State.clearedTrips
  split <;> rfl

theorem State.remaining_none (h : s.remaining = none) :
    (∀ k ∈ s.trip.latched, s.clears k = true) ∧ ∀ e ∈ s.trip.list, e.originator = s.loader.ownAddress := by
  unfold State.remaining State.firstRemote at h
  split at h
  · cases h
  · rename_i hfind
    rw [Option.map_eq_none_iff] at h
    exact ⟨by simpa using hfind, by simpa using h⟩

/-- R163: a latched CONFLICT bars every RESET. -/
theorem State.no_conflict_of_remaining (h : s.remaining = none) : .conflict ∉ s.trip.latched := fun hc =>
  Bool.noConfusion ((State.remaining_none h).1 _ hc)

theorem TripUnit.Agrees.ownEntry_iff (h : s.trip.Agrees s.loader.ownAddress) :
    s.ownEntry = true ↔ s.trip.outstanding = true := by
  obtain ⟨_, _, _, _, _, hentry⟩ := h
  have hown : s.ownEntry = true ↔ s.trip.list.filter (fun e => e.originator == s.loader.ownAddress) ≠ [] := by
    simp [State.ownEntry]
  rw [hown, hentry]
  cases s.trip.outstanding <;> simp

/-- R164: with no cause remaining, a taken RESET empties the trip unit. -/
theorem State.clearedTrips_eq_reset (h : s.trip.Agrees s.loader.ownAddress) (hr : s.remaining = none) :
    s.clearedTrips = .reset := by
  obtain ⟨_, hlist⟩ := State.remaining_none hr
  unfold State.clearedTrips
  cases ho : s.ownEntry with
  | true =>
    have hempty : removeEntry s.loader.ownAddress s.trip.list = [] := by simpa [removeEntry] using hlist
    simp [TripUnit.reset, hempty]
  | false =>
    have hout : s.trip.outstanding = false := Bool.eq_false_iff.mpr fun k => Bool.noConfusion (ho.symm.trans (h.ownEntry_iff.mpr k))
    have hempty : s.trip.list = [] := by
      refine List.eq_nil_iff_forall_not_mem.mpr fun e he => ?_
      have hany : s.ownEntry = true := List.any_eq_true.mpr ⟨e, he, by simpa using hlist e he⟩
      exact Bool.noConfusion (ho.symm.trans hany)
    simp [TripUnit.reset, hempty, hout]

theorem State.moves_leaveTripped {counts : Six (BitVec 12)} {levels : Twelve Bool} {order : List SampleTurn}
    (hc : c = .sampleEvent counts levels order) (hp : s.seq.phase = .tripped) (hr : s.remaining = none) :
    Moves c s s.clearTrips.leaveTripped := by
  have hagrees : s.trip.Agrees s.loader.ownAddress → s.clearedTrips.Agrees s.loader.ownAddress := fun h =>
    State.clearedTrips_eq_reset h hr ▸ TripUnit.agrees_reset h.1
  have htripped : s.trip.Agrees s.loader.ownAddress → s.clearedTrips.tripped = false := fun h =>
    State.clearedTrips_eq_reset h hr ▸ rfl
  have hline : Moves c s (s.onLine (fun l => if s.ownEntry then l.queueClear else l)) := by
    refine State.moves_onLine _ ?_ fun hord => ?_
    · split <;> simp
    · split
      · exact hord.queueClear
      · exact hord
  refine hline.trans ?_
  rw [State.clearTrips_eq, State.leaveTripped]
  by_cases hopen : s.ticketOpen = true
  · rw [if_pos (by exact hopen)]
    refine (State.calm_note .hold HoldReason.trip.code _).moves.trans (.single (.enter
      ((((s.onLine (fun l => if s.ownEntry then l.queueClear else l)).note .hold HoldReason.trip.code).onTrip
        (fun _ => s.clearedTrips)).onSeq (fun q => { q with
          held := q.held, reason := some .trip, residual := 0, recoveryTimer := none })) .hold ?_))
    exact {
      awake := .inl (by simp [hp])
      check := fun h => h.trans (by simp [hp])
      hold := fun _ h => ⟨iff_of_true rfl rfl, fun _ => h.2.2 hp (by simpa using hopen), fun k => absurd k (by decide)⟩
      tickets := fun h => by
        have hsome : s.ticket.current.isSome = true := hopen
        simpa [TicketUnit.Fits, Phase.hasTicket, noted, hsome] using h.2.2
      trips := hagrees
      conflict := fun h => absurd h (State.no_conflict_of_remaining hr)
      tripped := fun h _ => htripped ((tripsAgree_iff _).mp h).2.1
      leaves := fun _ _ => ⟨counts, levels, order, hc⟩ }
  · rw [if_neg (by exact hopen)]
    refine .single (.enter _ .idle ?_)
    exact {
      awake := .inl (by simp [hp])
      check := fun h => h.trans (by simp [hp])
      hold := fun _ _ => by simp [Sequence.HoldFits]
      tickets := fun h => TicketUnit.fits_of_none (Bool.eq_false_iff.mpr hopen) h.2.2.1 rfl (by decide)
      trips := hagrees
      conflict := fun h => absurd h (State.no_conflict_of_remaining hr)
      tripped := fun h _ => htripped ((tripsAgree_iff _).mp h).2.1
      leaves := fun _ _ => ⟨counts, levels, order, hc⟩ }

theorem State.moves_resetPress {counts : Six (BitVec 12)} {levels : Twelve Bool} {order : List SampleTurn}
    (hc : c = .sampleEvent counts levels order) (hp : s.seq.phase = .tripped) : Moves c s s.resetPress := by
  unfold State.resetPress
  split
  · exact (State.calm_setTempCode _ _).moves
  · split
    · exact (State.calm_setTempCode _ _).moves
    · exact State.moves_leaveTripped hc hp (by assumption)

theorem State.moves_longPress (hp : s.seq.phase = .tripped) : Moves c s s.longPress :=
  State.moves_filterRemote _ (.inl (by simp [hp])) fun e he => by simp [he]

theorem State.moves_panelWork {counts : Six (BitVec 12)} {levels : Twelve Bool} {order : List SampleTurn}
    (hc : c = .sampleEvent counts levels order) (p : PanelReports) (s : State) : Moves c s (s.panelWork p).1 := by
  unfold State.panelWork
  split
  · rename_i hp
    split
    · exact State.moves_startInIdle hp
    · exact .refl
  · rename_i hp
    dsimp only
    split
    · exact State.moves_endCheck hp
    · exact .refl
  · rename_i hp
    dsimp only
    split
    · exact State.moves_enterHold .push .operator (by simp [hp, Phase.hasTicket])
    · exact .refl
  · rename_i hp
    dsimp only
    split
    · exact State.moves_enterHold .recover .operator (by simp [hp, Phase.hasTicket])
    · exact .refl
  · rename_i hp
    dsimp only
    split
    · exact State.moves_stopInHold hp
    · split
      · exact State.moves_startInHold hp
      · exact .refl
  · rename_i hp
    dsimp only
    split
    · exact State.moves_resetPress hc hp
    · split
      · exact State.moves_longPress hp
      · exact .refl
  all_goals exact .refl

/-! ## The turns (R1) -/

theorem State.moves_sampleInputs (counts : Six (BitVec 12)) (levels : Twelve Bool) (s : State) :
    Moves c s (s.sampleInputs counts levels) :=
  (Calm.of_onInput _ s).moves.trans (State.moves_promptOnMove _ _)

theorem moves_takeReports (rs : List SampleReport) (s : State) : Moves c s (rs.foldl (fun t r => t.takeReport r) s) := by
  induction rs generalizing s with
  | nil => exact .refl
  | cons r rest ih => exact (s.moves_takeReport r).trans (ih _)

section

variable {counts : Six (BitVec 12)} {levels : Twelve Bool} {order : List SampleTurn}
  (hc : c = .sampleEvent counts levels order)

include hc

theorem moves_doWork (w : SampleWork) (s : State) (e : Event) : Moves c s (doWork w s e).1 := by
  cases w with
  | sensor => exact .refl
  | panel => exact State.moves_panelWork hc _ s
  | supervision => exact .refl
  | arms => exact s.moves_armsWork
  | residual => exact s.moves_residualWork
  | check =>
    unfold doWork
    dsimp only
    split
    · exact .refl
    · exact s.moves_checkWork
  | detectors => exact s.moves_detectorWork _
  | valves => exact s.moves_valveWork
  | share => exact s.moves_shareWork
  | trips => exact .refl
  | tickets => exact s.moves_ticketWork

theorem moves_takeTurn (turn : SampleTurn) (s : State) (e : Event) : Moves c s (takeTurn turn s e).1 := by
  cases turn with
  | work w => exact (moves_doWork hc w s e).trans (moves_takeReports _ _)
  | take r =>
    unfold takeTurn
    dsimp only
    split
    · exact s.moves_takeReport r
    · exact .refl

theorem moves_runTurns (turns : List SampleTurn) (s : State) (e : Event) : Moves c s (runTurns turns s e) := by
  induction turns generalizing s e with
  | nil => exact .refl
  | cons turn rest ih => exact (moves_takeTurn hc turn s e).trans (ih _ _)

end

end Sys2Proof.Machine
end


section
/-!
PROOFS. The moves of the other commands: the line controller, received frames, the loader, the timers, and the passing of
time; and `exec_moves`, which says of every command what it does.
-/

namespace Sys2Proof.Machine

open Sys2Proof

variable {c : Instr} {s t : State}

/-! ## The share unit's entries into and exits from ISLAND (R149, R150) -/

/-- R143, R149, R150: grants lowered to a bound of theirs, with one below the minimum made 0. -/
theorem ShareUnit.Bounded.lower {g : Settings} {phase : Phase} {u v : ShareUnit} (h : u.Bounded g phase) (bound : Pool → Nat)
    (hgrant : ∀ p, v.grant.get p = orNothing (g.minGrant.get p) (min (u.grant.get p) (bound p)))
    (hjoined : v.island = .joined → ∀ p, bound p ≤ v.share.get p)
    (hisland : v.island = .island → ∀ p, bound p ≤ g.allowance.get p) : v.Bounded g phase := by
  intro p
  obtain ⟨hzero, _, _, hspot⟩ := h p
  rw [hgrant p]
  have hle := orNothing_le (g.minGrant.get p) (min (u.grant.get p) (bound p))
  refine ⟨fun hd => ?_, fun hj => ?_, fun hi => ?_, hle.trans ((min_le_left _ _).trans hspot)⟩
  · rw [hzero hd, Nat.zero_min, orNothing_zero]
  · exact hle.trans ((min_le_right _ _).trans (hjoined hj p))
  · exact hle.trans ((min_le_right _ _).trans (hisland hi p))

theorem State.moves_enterIsland (how : Nat) (s : State) : Moves c s (s.enterIsland how) := by
  refine Relation.ReflTransGen.trans (.single (.grants { s.share with
      island := .island
      rings := poolsZip capRing s.cfg.allowance s.share.rings
      grant := Pools.of (fun p => orNothing (s.cfg.minGrant.get p) (min (s.share.grant.get p) (s.cfg.allowance.get p))) }
    rfl fun h => ?_)) (State.calm_note _ _ _).moves
  exact h.lower (s.cfg.allowance.get ·) (fun p => Pools.get_of _ p) (fun hj => IslandState.noConfusion hj) (fun _ _ => le_rfl)

theorem State.moves_exitIsland (s : State) : Moves c s s.exitIsland := by
  refine Relation.ReflTransGen.trans (.single (.grants { s.share with
      island := .joined
      grant := Pools.of (fun p => orNothing (s.cfg.minGrant.get p) (min (s.share.grant.get p) (s.share.share.get p))) }
    rfl fun h => ?_)) (State.calm_note _ _ _).moves
  exact h.lower (s.share.share.get ·) (fun p => Pools.get_of _ p) (fun _ _ => le_rfl) (fun hi => IslandState.noConfusion hi)

theorem State.moves_reportAcked (carried : Pools Nat) (s : State) : Moves c s (s.reportAcked carried) := by
  have hrings : Calm s (s.onShare (fun u => { u with rings := poolsZip pushRing carried u.rings })) := {}
  refine hrings.moves.trans ?_
  unfold State.reportAcked
  dsimp only
  split
  · exact State.moves_exitIsland _
  · exact .refl

theorem State.moves_reportUnacked (count : Nat) (s : State) : Moves c s (s.reportUnacked count) := by
  unfold State.reportUnacked
  split
  · exact s.moves_enterIsland 1
  · exact .refl

theorem State.moves_reportFault (s : State) : Moves c s s.reportFault := by
  have hmarker : Calm s (s.onShare (fun u => { u with faultMarker := true })) := {}
  refine hmarker.moves.trans ?_
  unfold State.reportFault
  dsimp only
  split
  · exact State.moves_enterIsland 2 _
  · exact .refl

/-! ## The line controller's own commands (sections 6.4 and 6.6) -/

/-- R104, R105, R107: an attempt ends in another working state. -/
theorem State.moves_endAttempt (f : LineController → LineController) (hs : s.line.takesRequests = true)
    (ht : (f s.line).takesRequests = true) (hsending : (f s.line).sending = false) (hi : (f s.line).inFlight = none)
    (ho : (f s.line).outgoing.Sublist s.line.outgoing) : Moves c s (s.onLine f) :=
  State.moves_onLine_state f hs ht fun h => h.endAttempt ho hi hsending ht

theorem LineController.takesRequests_of_sending {l : LineController} (h : l.sending = true) : l.takesRequests = true := by
  unfold LineController.sending at h
  unfold LineController.takesRequests
  cases hl : l.state <;> simp_all

theorem State.moves_enterFault (hs : s.line.takesRequests = true) : Moves c s s.enterFault :=
  (State.moves_endAttempt (fun l => { l with state := .fault, inFlight := none }) hs rfl rfl rfl
    (List.Sublist.refl _)).trans (State.moves_reportFault _)

/-- R103: the head of the list becomes the frame in flight. -/
theorem State.moves_contend {f : OutFrame} (hs : s.line.state = .listen) (hf : f ∈ s.line.outgoing) :
    Moves c s (s.contend f) := by
  refine State.moves_onLine_state (fun l => { l with state := .contend, track := .inFrame, inFlight := some (s.launch f) })
    (by simp [LineController.takesRequests, hs]) rfl fun h => ?_
  obtain ⟨hpair, hboth, hseries, _⟩ := h
  exact ⟨hpair, hboth, hseries, fun k => Bool.noConfusion (show true = false from k), rfl,
    fun i hi _ => Option.mem_some_iff.mp hi ▸ hf, fun i hi hr => absurd hr (Option.mem_some_iff.mp hi ▸ by simp [State.launch])⟩

theorem moves_contentionStart (s : State) : ∃ t, execContentionStart s = .next t ∧ Moves c s t := by
  refine ⟨_, rfl, ?_⟩
  split
  · split
    · exact Calm.moves {}
    · rename_i f rest hl
      split
      · rename_i hlisten
        exact State.moves_contend hlisten (by simp [hl])
      · exact Calm.moves {}
  · exact .refl

theorem moves_arbitrationLoss (s : State) : ∃ t, execArbitrationLoss s = .next t ∧ Moves c s t := by
  refine ⟨_, rfl, ?_⟩
  split
  · rename_i h
    exact State.moves_endAttempt _ (by simp [LineController.takesRequests, h]) rfl rfl rfl (List.Sublist.refl _)
  · exact .refl

theorem LineState.reaches_sending {l : LineController} {place : SendErrorPlace} (h : l.state.reaches place = true) :
    l.sending = true := by
  unfold LineController.sending
  cases hl : l.state <;> cases place <;> simp_all [LineState.reaches]

theorem LineController.failSend_outgoing (place : SendErrorPlace) (l : LineController) :
    (l.failSend place).outgoing = l.outgoing := by
  unfold LineController.failSend runsAfterError
  split <;> rfl

theorem moves_sendError (place : SendErrorPlace) (s : State) : ∃ t, execSendError place s = .next t ∧ Moves c s t := by
  refine ⟨_, rfl, ?_⟩
  split
  · rename_i h
    have hfail : Moves c s (s.onLine (LineController.failSend place)) :=
      State.moves_endAttempt _ (LineController.takesRequests_of_sending (LineState.reaches_sending h)) rfl rfl rfl
        (by rw [LineController.failSend_outgoing])
    split
    · exact hfail.trans (State.moves_enterFault rfl)
    · exact hfail
  · exact .refl

theorem moves_stuckLine (s : State) : ∃ t, execStuckLine s = .next t ∧ Moves c s t := by
  refine ⟨_, rfl, ?_⟩
  split
  · exact .refl
  · split
    · exact Calm.moves {}
    · rename_i hoff hother
      refine Relation.ReflTransGen.trans (Calm.moves (t := s.onLine (fun l => { l.dominant with track := .lost })) {})
        (State.moves_enterFault ?_)
      simpa [LineController.takesRequests, LineController.dominant, hoff] using (not_or.mp hother).2

/-- R116, R178: a series ends with its last part. -/
theorem State.moves_partCompleted (s : State) : Moves c s s.partCompleted := by
  unfold State.partCompleted
  split
  · exact .refl
  · rename_i hw
    refine .single (.line s.line none Iff.rfl id fun h => ?_)
    obtain ⟨hpair, hboth, _, hrest⟩ := h
    exact ⟨hpair, hboth, fun k => absurd k hw, hrest⟩

theorem State.moves_announceCompleted (acked : Bool) (carried : Announced) (s : State) :
    Moves c s (s.announceCompleted acked carried) := by
  unfold State.announceCompleted
  dsimp only
  have hline : Moves c s ((s.onLine (LineController.announced carried)).promptTest.onLine (LineController.countAck acked)) :=
    Relation.ReflTransGen.trans (Calm.moves (t := s.onLine (LineController.announced carried)) {})
      ((State.moves_promptTest _).trans (Calm.moves {}))
  split
  · exact hline.trans (State.moves_reportAcked _ _)
  · exact hline.trans (State.moves_reportUnacked _ _)

theorem State.moves_finishSend (i : InFlight) (hs : s.line.sending = true) :
    Moves c s (s.onLine (LineController.finishSend i)) := by
  refine State.moves_endAttempt _ (LineController.takesRequests_of_sending hs) rfl rfl rfl ?_
  unfold LineController.finishSend
  dsimp only
  split
  · exact List.Sublist.refl _
  · exact List.filter_sublist

theorem moves_sendCompleted (acked : Bool) (s : State) : ∃ t, execSendCompleted acked s = .next t ∧ Moves c s t := by
  refine ⟨_, rfl, ?_⟩
  split
  · exact .refl
  · rename_i i _
    split
    · rename_i hs
      refine (State.moves_finishSend i hs).trans ?_
      unfold State.completeSend
      dsimp only
      split
      · exact State.moves_announceCompleted _ _ _
      · exact State.moves_partCompleted _
      · exact .refl
    · exact .refl

theorem moves_faultExit (s : State) : ∃ t, execFaultExit s = .next t ∧ Moves c s t := by
  refine ⟨_, rfl, ?_⟩
  split
  · rename_i h
    have hline : Moves c s (s.onLine (fun l => { l with
        state := .listen, track := .idle, sendErrors := 0, dominantRun := 0 })) := by
      refine State.moves_onLine_state _ (by simp [LineController.takesRequests, h.1]) rfl fun hord => ?_
      obtain ⟨hpair, hboth, hseries, _, hflight, hin, hout⟩ := hord
      refine ⟨hpair, hboth, hseries, fun k => Bool.noConfusion (show true = false from k), hflight.trans ?_, hin, hout⟩
      unfold LineController.sending
      rw [h.1]
      rfl
    exact hline.trans (Calm.moves {})
  · exact .refl

theorem moves_lineIdle (s : State) : ∃ t, execLineIdle s = .next t ∧ Moves c s t := by
  refine ⟨_, rfl, ?_⟩
  split
  · exact .refl
  · unfold State.onLine LineController.becomeIdle
    by_cases h : s.line.track = .lost ∨ s.line.track = .afterFrame
    · simp only [if_pos h]
      exact Calm.moves {}
    · simp only [if_neg h]
      exact .refl

theorem moves_announceTimerExpiry (s : State) : ∃ t, execAnnounceTimerExpiry s = .next t ∧ Moves c s t := by
  refine ⟨_, rfl, ?_⟩
  split
  · exact State.moves_onLine _ (by simp) fun h => LineController.Ordered.queueAnnounce h
  · exact .refl

theorem moves_spacingTimeReached (s : State) : ∃ t, execSpacingTimeReached s = .next t ∧ Moves c s t := by
  refine ⟨_, rfl, ?_⟩
  split
  · refine State.moves_onLine _ ?_ fun h => ?_
    · unfold LineController.spacingReached
      split <;> simp
    · unfold LineController.spacingReached
      split
      · exact LineController.Ordered.queueAnnounce h
      · exact h
  · exact .refl

/-! ## Peer records (chapter 7) -/

theorem newPeer_address (a : Nat) : (newPeer a).address = a := rfl

/-- R120: the addresses of the table after a frame of this source. -/
theorem touchPeer_addresses (a : Nat) {f : Peer → Peer} (hf : ∀ p, (f p).address = p.address) (ps : List Peer) :
    (touchPeer a f ps).map Peer.address =
      if a ∈ ps.map Peer.address then ps.map Peer.address else ps.map Peer.address ++ [a] := by
  unfold touchPeer
  by_cases h : a ∈ ps.map Peer.address
  · rw [if_pos h, if_pos (by simpa using h), List.map_map]
    refine List.map_congr_left fun p _ => ?_
    simp only [Function.comp]
    split
    · exact hf p
    · rfl
  · rw [if_neg h, if_neg (by simpa using h)]
    simp [hf, newPeer_address]

theorem PeersFit.touch {own a : Nat} {ps : List Peer} (h : PeersFit own ps) (hne : a ≠ own) (hv : validSource a = true)
    {f : Peer → Peer} (hf : ∀ p, (f p).address = p.address) : PeersFit own (touchPeer a f ps) := by
  have hold : ∀ b ∈ ps.map Peer.address, b ≠ own ∧ validSource b = true := by
    simpa using h.2
  have haddr := touchPeer_addresses a hf ps
  refine ⟨?_, fun p hp => ?_⟩
  · rw [haddr]
    split
    · exact h.1
    · exact List.nodup_append'.mpr ⟨h.1, List.nodup_singleton a, List.disjoint_singleton.mpr (by assumption)⟩
  · have hmem : p.address ∈ (touchPeer a f ps).map Peer.address := List.mem_map_of_mem hp
    rw [haddr] at hmem
    split at hmem
    · exact hold _ hmem
    · rcases List.mem_append.mp hmem with hmem | hmem
      · exact hold _ hmem
      · exact List.mem_singleton.mp hmem ▸ ⟨hne, hv⟩

theorem Peer.announce_address (own : Option Nat) (a : AnnouncePayload) (p : Peer) : (p.announce own a).address = p.address :=
  rfl

/-- R125, R126: a record moves to another liveness under its address. -/
theorem State.calm_mapPeers (f : Peer → Peer) (hf : ∀ p, (f p).address = p.address) (s : State) :
    Calm s (s.onPeers (List.map f)) where
  peers := by
    rw [State.onPeers_peers, List.map_map, show Peer.address ∘ f = Peer.address from funext hf]

theorem State.calm_filterPeers (keep : Peer → Bool) (s : State) : Calm s (s.onPeers (List.filter keep)) where
  peers := List.filter_sublist.map _

/-! ## Received frames (sections 6.3 and 6.4) -/

theorem State.calm_frameEnded (ack : Bool) (s : State) : Calm s (s.frameEnded ack) := {}

theorem State.moves_frameUnfollowed (s : State) : Moves c s s.frameUnfollowed := by
  unfold State.frameUnfollowed
  split
  · exact Calm.moves {}
  · exact .refl

theorem LineController.state_ne_off_of_receives {l : LineController} (h : l.receives = true) : l.state ≠ .off := by
  intro ho
  simp [LineController.receives, LineController.listens, ho] at h

/-- R108: a conflict, in a station whose line controller is not off. -/
theorem State.moves_takeConflict (hoff : s.line.state ≠ .off) : Moves c s s.takeConflict := by
  unfold State.takeConflict
  split
  · exact .refl
  · refine Relation.ReflTransGen.trans (.single (.line { s.line with
        state := .silent
        outgoing := []
        inFlight := none
        promptRequest := false
        announceTimer := none
        spacingTimer := none } none (iff_of_false LineState.noConfusion hoff) (fun _ => rfl) fun _ => ?_))
      (State.moves_latch .conflict _)
    exact LineController.ordered_of_empty rfl rfl rfl

/-- R100: what the end of a frame does is made of moves where what a good one does is. -/
theorem State.moves_endFrame (good ends : Bool) (act : State → State)
    (hact : ∀ ack, s.line.state ≠ .off → Moves c (s.frameEnded ack) (act (s.frameEnded ack))) :
    Moves c s (s.endFrame good ends act) := by
  rcases s.endFrame_cases good ends act with ⟨_, h⟩ | ⟨_, _, h⟩ | ⟨_, _, _, h⟩ | ⟨hears, _, _, h⟩ <;> rw [h]
  · exact s.moves_frameUnfollowed
  · exact (s.calm_frameEnded _).moves
  · exact (s.calm_frameEnded _).moves
  · exact (s.calm_frameEnded _).moves.trans (hact _ (LineController.state_ne_off_of_receives hears.1))

/-- What R101 grants the owners of a frame that is handed to them. -/
structure Handed (f : Frame) (s : State) : Prop where
  awake : s.line.state ≠ .off
  foreign : f.source.toNat ≠ s.loader.ownAddress
  valid : validSource f.source.toNat = true

theorem State.moves_receive (f : Frame) (hand : State → State) (hhand : ∀ u, Handed f u → Moves c u (hand u)) (s : State) :
    Moves c s (s.receive f hand) := by
  refine State.moves_endFrame _ _ _ fun ack hoff => ?_
  rcases (s.frameEnded ack).takeGood_cases f hand with ⟨_, h⟩ | ⟨hne, hv, _, h⟩ | ⟨_, _, h⟩ <;> rw [h]
  · exact State.moves_takeConflict hoff
  · exact hhand _ ⟨hoff, hne, hv⟩

section

variable {f : Frame} (h : Handed f s)

include h

theorem State.moves_refreshPeer : Moves c s (s.refreshPeer f.source.toNat) :=
  .single (.peers _ (.inr h.awake) fun hp => hp.touch h.foreign h.valid fun _ => rfl)

theorem State.moves_takeTrip (causeSet : Half) : Moves c s (s.takeTrip f.source causeSet) :=
  (State.moves_refreshPeer h).trans (State.moves_addRemote _ (.inr h.awake) h.foreign h.valid)

theorem State.moves_dropRemote : Moves c s (s.dropRemote f.source.toNat) :=
  State.moves_filterRemote _ (.inr h.awake) fun e he => by simpa [he] using h.foreign.symm

theorem State.moves_mendList (outstanding : Bool) : Moves c s (s.mendList f.source.toNat outstanding) := by
  unfold State.mendList
  split
  · split
    · exact .refl
    · exact State.moves_addRemote _ (.inr h.awake) h.foreign h.valid
  · exact State.moves_dropRemote h

theorem State.moves_takeAnnounce (payload : AnnouncePayload) : Moves c s (s.takeAnnounce f.source payload) :=
  Relation.ReflTransGen.trans (.single (.peers _ (.inr h.awake) fun hp => hp.touch h.foreign h.valid fun p =>
      p.announce_address s.loader.signature payload))
    (State.moves_mendList (s := s.announcePeer f.source.toNat payload) ⟨h.awake, h.foreign, h.valid⟩ _)

theorem State.moves_takeClear : Moves c s (s.takeClear f.source) :=
  (State.moves_refreshPeer h).trans
    (State.moves_dropRemote (s := s.refreshPeer f.source.toNat) ⟨h.awake, h.foreign, h.valid⟩)

end

/-- R110: a series goes behind the frames of the other kinds, where no part of another waits. -/
theorem LineController.Ordered.queueSeries {l : LineController} (h : l.Ordered none) (ht : l.takesRequests = true) (n : Nat)
    (series : Series) : (l.queueSeries n).Ordered (some series) := by
  obtain ⟨hpair, hboth, hseries, _, hflight, hin, hout⟩ := h
  have hnone : ∀ f ∈ l.outgoing, f.kind ≠ 4 := fun f hf hk => by
    obtain ⟨part, rfl⟩ := OutFrame.kind_eq_four.mp hk
    exact Bool.noConfusion (hseries (LineController.seriesWaits_iff.mpr ⟨part, hf⟩))
  have hparts : ∀ f ∈ seriesParts n, ∃ i, f = .report (i + 1) := fun f hf => by
    obtain ⟨i, _, rfl⟩ := List.mem_map.mp hf
    exact ⟨i, rfl⟩
  refine ⟨List.pairwise_append.mpr ⟨hpair, ?_, fun f hf g hg => ?_⟩, fun hb => ?_, fun _ => rfl, fun k => ?_, hflight,
    fun i hi hr => List.mem_append_left _ (hin i hi hr), hout⟩
  · exact List.pairwise_map.mpr (List.pairwise_lt_range.imp fun hlt => by simpa [OutFrame.place] using hlt)
  · obtain ⟨i, rfl⟩ := hparts g hg
    refine OutFrame.place_lt_of_kind_lt ?_
    have hk := hnone f hf
    cases f <;> simp_all [OutFrame.kind]
  · obtain ⟨ha, hc⟩ := hb
    have hlist : ∀ f, (∀ i, f ≠ OutFrame.report i) → f ∈ (l.queueSeries n).outgoing → f ∈ l.outgoing := fun f hf hm => by
      rcases List.mem_append.mp hm with hm | hm
      · exact hm
      · obtain ⟨i, hi⟩ := hparts f hm
        exact absurd hi (hf _)
    exact hboth ⟨hlist _ (fun _ => OutFrame.noConfusion) ha, hlist _ (fun _ => OutFrame.noConfusion) hc⟩
  · exact absurd (ht.symm.trans k) (by decide)

theorem State.moves_answerInquiry (number : Nat) (s : State) : Moves c s (s.answerInquiry number) := by
  unfold State.answerInquiry
  split
  · exact .refl
  · rename_i hnone
    split
    · rename_i ht
      refine .single (.line (s.line.queueSeries (s.ticket.seriesFor number).parts) (some (s.ticket.seriesFor number))
        Iff.rfl id fun h => ?_)
      rw [Option.not_isSome_iff_eq_none.mp hnone] at h
      exact h.queueSeries ht _ _
    · exact .refl

theorem State.moves_takeInquiry {f : Frame} (h : Handed f s) (target : Byte) (number : Half) :
    Moves c s (s.takeInquiry f.source target number) := by
  unfold State.takeInquiry
  split
  · exact (State.moves_refreshPeer h).trans (State.moves_answerInquiry _ _)
  · exact State.moves_refreshPeer h

/-- R101: a frame of another kind than COLLECT at its owners. -/
theorem State.moves_handOn {f : Frame} (h : Handed f s) (hk : f.kind.toNat ≠ 5) : Moves c s (s.handOn f) := by
  unfold State.handOn
  split
  · exact State.moves_takeTrip h _
  · exact State.moves_takeClear h
  · exact State.moves_takeAnnounce h _
  · exact State.moves_takeInquiry h _ _
  · exact State.moves_refreshPeer h
  · exact absurd (by assumption) hk
  · exact .refl

/-- R175, R179: a COLLECT's moves, and the ticket that it takes out of the store at their end. -/
def CollectMoves (c : Instr) (s t : State) : Prop :=
  Moves c s t ∨ ∃ u number, Moves c s u ∧ u.ticket = s.ticket ∧ t = u.onTicket (TicketUnit.collect number)

theorem State.moves_takeCollect {f : Frame} (h : Handed f s) (target : Byte) (number : Half) :
    CollectMoves c s (s.takeCollect f.source target number) := by
  unfold State.takeCollect
  split
  · exact .inr ⟨_, number.toNat, State.moves_refreshPeer h, rfl, rfl⟩
  · exact .inl (State.moves_refreshPeer h)

theorem State.collectMoves_handOn {f : Frame} (h : Handed f s) : CollectMoves c s (s.handOn f) := by
  by_cases hk : f.kind.toNat = 5
  · unfold State.handOn
    rw [hk]
    split
    all_goals first
      | exact State.moves_takeCollect h _ _
      | exact .inl .refl
      | contradiction
  · exact .inl (State.moves_handOn h hk)

theorem State.collectMoves_receive (f : Frame) (hand : State → State) (hhand : ∀ u, Handed f u → CollectMoves c u (hand u))
    (s : State) : CollectMoves c s (s.receive f hand) := by
  rcases s.endFrame_cases (checkGood f) true (State.takeGood f hand) with ⟨_, h⟩ | ⟨_, _, h⟩ | ⟨_, _, _, h⟩ | ⟨hears, _, _, h⟩ <;>
    rw [State.receive, h]
  · exact .inl s.moves_frameUnfollowed
  · exact .inl (s.calm_frameEnded _).moves
  · exact .inl (s.calm_frameEnded _).moves
  · have hoff := LineController.state_ne_off_of_receives hears.1
    have hend : Moves c s (s.frameEnded (acksGood s)) := (s.calm_frameEnded _).moves
    rcases (s.frameEnded (acksGood s)).takeGood_cases f hand with ⟨_, g⟩ | ⟨hne, hv, _, g⟩ | ⟨_, _, g⟩ <;> rw [g]
    · exact .inl (hend.trans (State.moves_takeConflict hoff))
    · rcases hhand (s.frameEnded (acksGood s)) ⟨hoff, hne, hv⟩ with k | ⟨u, n, k, hu, ht⟩
      · exact .inl (hend.trans k)
      · exact .inr ⟨u, n, hend.trans k, hu, ht⟩
    · exact .inl hend

/-! ## The loader (chapter 11) -/

theorem moves_imageReadComplete (image : Vector Byte 192) (s : State) :
    ∃ t, execImageReadComplete image s = .next t ∧ Moves (.imageReadComplete image) s t := by
  refine ⟨_, rfl, ?_⟩
  split
  · rename_i ha
    unfold State.judge
    split
    · exact .single (.loading _ ha rfl rfl)
    · rename_i hv
      exact .single (.release image rfl ha hv)
  · exact .refl

theorem moves_memoryAttemptFailed (byte : PortByte) (s : State) :
    ∃ t, execMemoryAttemptFailed byte s = .next t ∧ Moves c s t := by
  refine ⟨_, rfl, ?_⟩
  split
  · rename_i ha
    have hcount : Moves c s (s.onLoader (fun l => { l with attempts := l.attempts + 1 })) := .single (.loading _ ha rfl rfl)
    refine hcount.trans ?_
    dsimp only
    split
    · exact .single (.loading _ ha rfl rfl)
    · exact .single (.loading _ ha rfl rfl)
  · exact .refl

theorem moves_memoryRetryPauseExpiry (s : State) : ∃ t, execMemoryRetryPauseExpiry s = .next t ∧ Moves c s t := by
  refine ⟨_, rfl, ?_⟩
  unfold State.onLoader
  by_cases h : s.loader.port = .pause
  · simp only [if_pos h]
    exact Calm.moves {}
  · simp only [if_neg h]
    exact .refl

theorem moves_resetEnd (straps : BitVec 4) (s : State) : ∃ t, execResetEnd straps s = .next t ∧ Moves c s t := by
  refine ⟨_, rfl, ?_⟩
  split
  · exact .single (.straps straps (by assumption))
  · exact .refl

/-! ## The expiries of the phase timers, the check and the detectors -/

theorem moves_drainTimerExpiry (s : State) : ∃ t, execDrainTimerExpiry s = .next t ∧ Moves c s t := by
  refine ⟨_, rfl, ?_⟩
  split
  · exact State.moves_restep _ rfl rfl rfl
  · exact .refl

theorem moves_recoveryTimerExpiry (s : State) : ∃ t, execRecoveryTimerExpiry s = .next t ∧ Moves c s t := by
  refine ⟨_, rfl, ?_⟩
  split
  · rename_i h
    exact (s.calm_note .empty 2).moves.trans (State.moves_enterClose (s := s.note .empty 2) id
      (by simp [h.1, Phase.hasTicket]) rfl (fun k => k.reason_none (by simp [h.1])))
  · exact .refl

theorem moves_bleedTimerExpiry (s : State) : ∃ t, execBleedTimerExpiry s = .next t ∧ Moves c s t := by
  refine ⟨_, rfl, ?_⟩
  split
  · exact (State.moves_restep _ rfl rfl rfl).trans (State.moves_endReleasing _)
  · exact .refl

theorem moves_temporaryCodeTimerExpiry (s : State) : ∃ t, execTemporaryCodeTimerExpiry s = .next t ∧ Moves c s t := by
  refine ⟨_, rfl, ?_⟩
  split
  · exact Calm.moves {}
  · exact .refl

/-- R53: the pass opens a ticket and begins "PUSH". -/
theorem State.moves_passCheck (hp : s.seq.phase = .check) : Moves .checkTimerExpiry s s.passCheck := by
  refine .single (.enter _ .push ?_)
  exact {
    awake := .inl (by simp [hp])
    check := fun _ => iff_of_false (fun k => k rfl) (by decide)
    hold := fun _ h => ⟨iff_of_false (by decide) (by simpa using h.reason_none (by simp [hp])), fun k => absurd k (by decide),
      fun k => absurd k (by decide)⟩
    tickets := fun h => by
      have hroom := h.2.2.2 (.inl hp)
      exact ⟨fun _ => rfl, fun _ => .inl rfl, hroom.trans (by decide), fun _ => hroom⟩
    numbers := fun h hn => hn.openTicket
      (Option.not_isSome_iff_eq_none.mp (by simpa using h.current_none (by simp [hp, Phase.hasTicket]) (by simp [hp])))
      h.2.2.1 _ _
    flow := fun h => absurd rfl h
    tripped := fun h _ => h.not_tripped (by simp [hp])
    leaves := fun h => absurd (hp.symm.trans h) (by decide) }

theorem moves_checkTimerExpiry (s : State) : ∃ t, execCheckTimerExpiry s = .next t ∧ Moves .checkTimerExpiry s t := by
  refine ⟨_, rfl, ?_⟩
  split
  · rename_i h
    split
    · exact State.moves_passCheck h.1
    · exact State.moves_failCheck .fl h.1
  · exact .refl

theorem moves_confirmTimerExpiry (s : State) : ∃ t, execConfirmTimerExpiry s = .next t ∧ Moves c s t := by
  refine ⟨_, rfl, ?_⟩
  split
  · exact s.moves_confirmLiquidOut
  · exact .refl

theorem moves_clearTimerExpiry (s : State) : ∃ t, execClearTimerExpiry s = .next t ∧ Moves c s t := by
  refine ⟨_, rfl, ?_⟩
  split
  · exact s.moves_lowerThrottle
  · exact .refl

theorem State.calm_setChannel (ch : Channel) (valve : Valve) (s : State) :
    Calm s (s.onValve (fun v => v.setChannel ch valve)) := by
  cases valve <;> exact {}

theorem moves_travelTimerExpiry (valve : Valve) (s : State) : ∃ t, execTravelTimerExpiry valve s = .next t ∧ Moves c s t := by
  refine ⟨_, rfl, ?_⟩
  split
  · unfold State.travelExpires
    split
    · exact (State.calm_setChannel _ _ _).moves.trans (State.moves_latch _ _)
    · exact (State.calm_setChannel _ _ _).moves.trans (State.moves_latch _ _)
    · exact .refl
  · exact .refl

theorem moves_starvationTimerExpiry (s : State) : ∃ t, execStarvationTimerExpiry s = .next t ∧ Moves c s t := by
  refine ⟨_, rfl, ?_⟩
  split
  · have hidle : Calm s (s.onShare (fun u => { u with starvation := none })) := { quiet := fun _ h => ⟨h.1, h.2.1, h.2.2.1, rfl⟩ }
    split
    · rename_i hp
      exact hidle.moves.trans (State.moves_enterHold .push .starved (by simp [hp, Phase.hasTicket]))
    · exact hidle.moves
  · exact .refl

/-! ## The passing of time (assumption 3) -/

theorem Peer.tick_address (g : Settings) (p : Peer) : (p.tick g).address = p.address := by
  unfold Peer.tick
  split <;> rfl

theorem State.calm_tick (s : State) : Calm s s.tick where
  quiet := fun _ h => by
    obtain ⟨h1, h2, h3, h4⟩ := h
    exact ⟨h1, h2, by simp [State.tick, DetectorUnit.tick, h3, tickTo], by simp [State.tick, h4, tickTo]⟩
  peers := by
    rw [State.tick, List.map_map, show Peer.address ∘ Peer.tick s.cfg = Peer.address from funext (Peer.tick_address s.cfg)]

/-- R103: an attempt goes on to its next line state. -/
theorem State.moves_attempt (f : LineController → LineController) (hs : s.line.sending = true)
    (ht : (f s.line).sending = true) (ho : (f s.line).outgoing = s.line.outgoing)
    (hi : (f s.line).inFlight = s.line.inFlight) : Moves c s (s.onLine f) := by
  have htakes := LineController.takesRequests_of_sending ht
  refine State.moves_onLine_state f (LineController.takesRequests_of_sending hs) htakes fun h => ?_
  obtain ⟨hpair, hboth, hseries, _, hflight, hin, hout⟩ := h
  refine ⟨ho ▸ hpair, ho ▸ hboth, ?_, fun k => absurd (htakes.symm.trans k) (by decide), ?_, ?_, ?_⟩
  · simpa only [LineController.seriesWaits, ho] using hseries
  · rw [hi, ht, hflight, hs]
  · rw [hi, ho]; exact hin
  · rw [hi]; exact hout

theorem State.moves_elapse (s : State) : Moves c s s.elapse := by
  unfold State.elapse
  split
  · rename_i h
    exact State.moves_attempt _ (by simp [LineController.sending, h]) rfl rfl rfl
  · rename_i h
    exact State.moves_attempt _ (by simp [LineController.sending, h]) rfl rfl rfl
  · exact .refl
  · exact s.calm_tick.moves

/-! ## Every command -/

/-- R175: the commands that may take a ticket out of the store: a COLLECT, or its frame given as one that is discarded
(assumption 18). -/
def Collects (c : Instr) : Prop :=
  (∃ source target number, c = .collect source target number) ∨ ∃ source payload, c = .frameDiscarded 5 source payload

/-- What a command other than a reset does. -/
theorem exec_moves (c : Instr) (s : State) (hpor : c ≠ .por) (hrstn : c ≠ .rstn) : ∃ t, exec c s = .next t ∧
    ((¬ Collects c ∧ Moves c s t) ∨ (Collects c ∧ CollectMoves c s t)) := by
  have plain : ∀ {o : Host.Outcome State Fault Refusal}, ¬ Collects c → (∃ t, o = .next t ∧ Moves c s t) →
      ∃ t, o = .next t ∧ ((¬ Collects c ∧ Moves c s t) ∨ (Collects c ∧ CollectMoves c s t)) :=
    fun hc ⟨t, ho, hm⟩ => ⟨t, ho, .inl ⟨hc, hm⟩⟩
  cases c with
  | por => exact absurd rfl hpor
  | rstn => exact absurd rfl hrstn
  | resetEnd straps => exact plain (by simp [Collects]) (moves_resetEnd straps s)
  | memoryAttemptFailed byte => exact plain (by simp [Collects]) (moves_memoryAttemptFailed byte s)
  | memoryRetryPauseExpiry => exact plain (by simp [Collects]) (moves_memoryRetryPauseExpiry s)
  | imageReadComplete image => exact plain (by simp [Collects]) (moves_imageReadComplete image s)
  | sampleEvent counts levels order =>
    refine plain (by simp [Collects]) ⟨_, rfl, ?_⟩
    split
    · exact (s.moves_sampleInputs counts levels).trans (moves_runTurns rfl _ _ _)
    · exact .refl
  | pulseEdge meter =>
    refine plain (by simp [Collects]) ⟨_, rfl, ?_⟩
    split
    · exact (Calm.of_onInput _ s).moves
    · exact .refl
  | taginIdleWaitDone => exact plain (by simp [Collects]) ⟨_, rfl, (Calm.of_onInput _ s).moves⟩
  | characterArrival code good => exact plain (by simp [Collects]) ⟨_, rfl, (Calm.of_onInput _ s).moves⟩
  | drainTimerExpiry => exact plain (by simp [Collects]) (moves_drainTimerExpiry s)
  | recoveryTimerExpiry => exact plain (by simp [Collects]) (moves_recoveryTimerExpiry s)
  | bleedTimerExpiry => exact plain (by simp [Collects]) (moves_bleedTimerExpiry s)
  | temporaryCodeTimerExpiry => exact plain (by simp [Collects]) (moves_temporaryCodeTimerExpiry s)
  | checkTimerExpiry => exact plain (by simp [Collects]) (moves_checkTimerExpiry s)
  | confirmTimerExpiry => exact plain (by simp [Collects]) (moves_confirmTimerExpiry s)
  | clearTimerExpiry => exact plain (by simp [Collects]) (moves_clearTimerExpiry s)
  | travelTimerExpiry valve => exact plain (by simp [Collects]) (moves_travelTimerExpiry valve s)
  | starvationTimerExpiry => exact plain (by simp [Collects]) (moves_starvationTimerExpiry s)
  | announceTimerExpiry => exact plain (by simp [Collects]) (moves_announceTimerExpiry s)
  | spacingTimeReached => exact plain (by simp [Collects]) (moves_spacingTimeReached s)
  | uptimeSecond =>
    refine plain (by simp [Collects]) ⟨_, rfl, ?_⟩
    split
    · exact .refl
    · exact .single (.uptime rfl _)
  | staleThresholdReached address =>
    exact plain (by simp [Collects])
      ⟨_, rfl, (State.calm_mapPeers _ (fun p => by split <;> rfl) s).moves⟩
  | lapseThresholdReached address =>
    exact plain (by simp [Collects])
      ⟨_, rfl, (State.calm_mapPeers _ (fun p => by split <;> rfl) s).moves⟩
  | forgetTimeReached address => exact plain (by simp [Collects]) ⟨_, rfl, (State.calm_filterPeers _ s).moves⟩
  | contentionStart => exact plain (by simp [Collects]) (moves_contentionStart s)
  | arbitrationLoss => exact plain (by simp [Collects]) (moves_arbitrationLoss s)
  | sendError place => exact plain (by simp [Collects]) (moves_sendError place s)
  | stuckLine => exact plain (by simp [Collects]) (moves_stuckLine s)
  | sendCompleted acked => exact plain (by simp [Collects]) (moves_sendCompleted acked s)
  | faultExit => exact plain (by simp [Collects]) (moves_faultExit s)
  | frameBadCheck => exact plain (by simp [Collects]) ⟨_, rfl, State.moves_endFrame _ _ _ fun _ _ => .refl⟩
  | frameDiscarded kind source payload =>
    by_cases hk : kind = 5
    · subst hk
      exact ⟨_, rfl, .inr ⟨.inr ⟨_, _, rfl⟩, State.collectMoves_receive _ _ (fun u h => State.collectMoves_handOn h) s⟩⟩
    · refine plain (by simpa [Collects] using hk) ⟨_, rfl, State.moves_receive _ _ (fun u h => State.moves_handOn h ?_) s⟩
      exact fun h5 => hk (BitVec.eq_of_toNat_eq h5)
  | conflict =>
    exact plain (by simp [Collects]) ⟨_, rfl, State.moves_endFrame _ _ _ fun _ hoff => State.moves_takeConflict hoff⟩
  | tripFrame source causeSet =>
    exact plain (by simp [Collects]) ⟨_, rfl, State.moves_receive _ _ (fun u h => State.moves_takeTrip h _) s⟩
  | clearFrame source =>
    exact plain (by simp [Collects]) ⟨_, rfl, State.moves_receive _ _ (fun u h => State.moves_takeClear h) s⟩
  | announceFrame source payload =>
    exact plain (by simp [Collects]) ⟨_, rfl, State.moves_receive _ _ (fun u h => State.moves_takeAnnounce h _) s⟩
  | inquiry source target number =>
    exact plain (by simp [Collects]) ⟨_, rfl, State.moves_receive _ _ (fun u h => State.moves_takeInquiry h _ _) s⟩
  | collect source target number =>
    exact ⟨_, rfl, .inr ⟨.inl ⟨_, _, _, rfl⟩,
      State.collectMoves_receive _ _ (fun u h => State.moves_takeCollect h target number.content) s⟩⟩
  | reportFrame source payload =>
    exact plain (by simp [Collects]) ⟨_, rfl, State.moves_receive _ _ (fun u h => State.moves_refreshPeer h) s⟩
  | lineIdle => exact plain (by simp [Collects]) (moves_lineIdle s)
  | frameEndFieldError => exact plain (by simp [Collects]) ⟨_, rfl, State.moves_endFrame _ _ _ fun _ _ => .refl⟩

end Sys2Proof.Machine
end


section
/-!
PROOFS. What every step keeps (O51 to O57): a step is a reset, or the moves of its command and at most the taking out of one
collected ticket; so an invariant that each of these keeps is kept by every step.
-/

namespace Sys2Proof.Machine

open Sys2Proof

/-! ## From moves to steps -/

/-- The part as an RSTN or a POR leaves it, but for the ticket unit and the queue. -/
def State.restarted (how : ResetKind) (u : TicketUnit) (queue : List Instr) : State :=
  { State.reset with resetting := some how, ticket := u, pending := queue }

/-- An invariant that each part of a step keeps. -/
structure KeptThroughout (P : State → Prop) : Prop where
  move : ∀ {c s t}, Move c s t → P s → P t
  por : ∀ queue, P (.restarted .por .reset queue)
  rstn : ∀ {s}, P s → ∀ how, P (.restarted how (s.ticket.rstn s.det.throttle) s.pending)
  collect : ∀ {s}, P s → ∀ number, P (s.onTicket (TicketUnit.collect number))
  queue : ∀ {s}, P s → ∀ queue, P { s with pending := queue }

theorem KeptThroughout.moves {P : State → Prop} (k : KeptThroughout P) {c : Instr} {s t : State} (hm : Moves c s t)
    (h : P s) : P t := by
  induction hm with
  | refl => exact h
  | tail _ m ih => exact k.move m ih

theorem KeptThroughout.collectMoves {P : State → Prop} (k : KeptThroughout P) {c : Instr} {s t : State}
    (hm : CollectMoves c s t) (h : P s) : P t := by
  rcases hm with hm | ⟨u, number, hm, _, rfl⟩
  · exact k.moves hm h
  · exact k.collect (k.moves hm h) number

theorem execRstn_eq (s : State) : execRstn s = .next (.restarted (if s.resetting = some .por then .por else .rstn)
    (s.ticket.rstn s.det.throttle) s.pending) := by
  unfold execRstn State.restarted
  split <;> rfl

theorem KeptThroughout.exec {P : State → Prop} (k : KeptThroughout P) {c : Instr} {s t : State} (h : P s)
    (he : exec c s = .next t) : P t := by
  by_cases hpor : c = .por
  · subst hpor
    obtain rfl := Host.Outcome.next.inj he
    exact k.por s.pending
  · by_cases hrstn : c = .rstn
    · subst hrstn
      obtain rfl := Host.Outcome.next.inj ((execRstn_eq s).symm.trans he)
      exact k.rstn h _
    · obtain ⟨u, hu, hm⟩ := exec_moves c s hpor hrstn
      obtain rfl := Host.Outcome.next.inj (hu.symm.trans he)
      rcases hm with ⟨_, hm⟩ | ⟨_, hm⟩
      · exact k.moves hm h
      · exact k.collectMoves hm h

theorem KeptThroughout.step {P : State → Prop} (k : KeptThroughout P) {s t : State} (h : P s)
    (he : Machine.step s = .next t) : P t := by
  unfold Machine.step at he
  split at he
  · obtain rfl := Host.Outcome.next.inj he
    exact k.moves (c := .por) s.moves_elapse h
  · exact k.exec (k.queue h _) he

/-! ## The ticket unit at a COLLECT and at an RSTN -/

/-- R175: a COLLECT takes at most one ticket out of the store and changes nothing else. -/
theorem TicketUnit.collect_store_sublist (number : Nat) (u : TicketUnit) : (u.collect number).store.Sublist u.store := by
  unfold TicketUnit.collect
  split
  · exact List.Sublist.refl _
  · exact List.filter_sublist

@[simp] theorem TicketUnit.collect_current (number : Nat) (u : TicketUnit) : (u.collect number).current = u.current := by
  unfold TicketUnit.collect
  split <;> rfl

@[simp] theorem TicketUnit.collect_nextNumber (number : Nat) (u : TicketUnit) :
    (u.collect number).nextNumber = u.nextNumber := by
  unfold TicketUnit.collect
  split <;> rfl

@[simp] theorem TicketUnit.collect_series (number : Nat) (u : TicketUnit) : (u.collect number).series = u.series := by
  unfold TicketUnit.collect
  split <;> rfl

@[simp] theorem TicketUnit.collect_uptime (number : Nat) (u : TicketUnit) : (u.collect number).uptime = u.uptime := by
  unfold TicketUnit.collect
  split <;> rfl

theorem TicketUnit.Fits.collect {u : TicketUnit} {p : Phase} (h : u.Fits p) (number : Nat) : (u.collect number).Fits p := by
  obtain ⟨hhas, hopen, hfull, hroom⟩ := h
  have hlen := (u.collect_store_sublist number).length_le
  unfold TicketUnit.Fits
  rw [TicketUnit.collect_current]
  exact ⟨hhas, hopen, hlen.trans hfull, fun k => hlen.trans (hroom k)⟩

theorem TicketUnit.Numbered.collect {u : TicketUnit} (h : u.Numbered) (number : Nat) : (u.collect number).Numbered := by
  obtain ⟨hdiffer, hrange, hnext⟩ := h
  have hsub : (u.collect number).numbers.Sublist u.numbers := by
    unfold TicketUnit.numbers
    rw [TicketUnit.collect_current]
    exact ((u.collect_store_sublist number).append (List.Sublist.refl _)).map _
  unfold TicketUnit.Numbered
  rw [TicketUnit.collect_nextNumber]
  exact ⟨hdiffer.sublist hsub, fun n hn => hrange n (hsub.subset hn), hnext⟩

/-- R180: an RSTN leaves the ticket unit as closing the ticket does, but for the marker and the series. -/
theorem TicketUnit.Fits.rstn {u : TicketUnit} {p : Phase} (h : u.Fits p) (throttle : Nat) : (u.rstn throttle).Fits .offline :=
  h.closeTicket .reset throttle rfl (by decide)

theorem TicketUnit.Numbered.rstn {u : TicketUnit} (h : u.Numbered) (throttle : Nat) : (u.rstn throttle).Numbered :=
  h.closeTicket .reset throttle

/-! ## The invariants, at a reset and after a COLLECT -/

theorem offlineQuiet_restarted (how : ResetKind) (u : TicketUnit) (queue : List Instr) :
    OfflineQuiet (.restarted how u queue) :=
  ⟨fun _ => rfl, fun _ => ⟨rfl, rfl, rfl, rfl, rfl⟩, fun h => absurd rfl h⟩

theorem interlocked_restarted (how : ResetKind) (u : TicketUnit) (queue : List Instr) :
    Interlocked (.restarted how u queue) := by
  simp [State.restarted, State.reset, Interlocked, ValveDriver.reset, Sequence.reset, lvWanted, bvWanted]

theorem kept_offlineQuiet : KeptThroughout OfflineQuiet where
  move m h := m.offlineQuiet h
  por := offlineQuiet_restarted _ _
  rstn _ _ := offlineQuiet_restarted _ _ _
  collect h _ := h
  queue h _ := h

theorem kept_interlocked : KeptThroughout Interlocked where
  move m h := m.interlocked h
  por := interlocked_restarted _ _
  rstn _ _ := interlocked_restarted _ _ _
  collect h _ := h
  queue h _ := h

theorem isStation_reset : isStation Loader.reset.ownAddress = true := by decide

theorem tripsAgree_restarted (how : ResetKind) (u : TicketUnit) (queue : List Instr) :
    TripsAgree (.restarted how u queue) :=
  (tripsAgree_iff _).mpr ⟨offlineQuiet_restarted _ _ _, TripUnit.agrees_reset isStation_reset,
    fun h => Bool.noConfusion (show false = true from h)⟩

theorem kept_tripsAgree : KeptThroughout TripsAgree where
  move m h := m.tripsAgree h
  por := tripsAgree_restarted _ _
  rstn _ _ := tripsAgree_restarted _ _ _
  collect h _ := h
  queue h _ := h

theorem peersKept_restarted (how : ResetKind) (u : TicketUnit) (queue : List Instr) : PeersKept (.restarted how u queue) :=
  ⟨offlineQuiet_restarted _ _ _, isStation_reset, List.nodup_nil, fun _ h => absurd h List.not_mem_nil⟩

theorem kept_peersKept : KeptThroughout PeersKept where
  move m h := m.peersKept h
  por := peersKept_restarted _ _
  rstn _ _ := peersKept_restarted _ _ _
  collect h _ := h
  queue h _ := h

/-- R119, R183: the addresses a source may have are those of 16 stations and 7 observers. -/
theorem mem_of_validSource {a : Nat} (h : validSource a = true) : a ∈ (List.range 31).filter validSource := by
  refine List.mem_filter.mpr ⟨List.mem_range.mpr ?_, h⟩
  simp only [validSource, isStation, isObserver, Bool.or_eq_true, Bool.and_eq_true, decide_eq_true_eq] at h
  omega

/-- R119: of the 23 addresses a source may have the own one bears no record. -/
theorem PeersKept.length_le {s : State} (h : PeersKept s) : s.peers.length ≤ 22 := by
  obtain ⟨_, hown, hnodup, hvalid⟩ := h
  have hmem : s.loader.ownAddress ∈ (List.range 31).filter validSource :=
    mem_of_validSource (by simp [validSource, hown])
  have hsub : s.peers.map Peer.address ⊆ ((List.range 31).filter validSource).erase s.loader.ownAddress := by
    intro a ha
    obtain ⟨p, hp, rfl⟩ := List.mem_map.mp ha
    exact (List.mem_erase_of_ne (hvalid p hp).1).mpr (mem_of_validSource (hvalid p hp).2)
  calc s.peers.length = (s.peers.map Peer.address).length := (List.length_map _).symm
    _ ≤ (((List.range 31).filter validSource).erase s.loader.ownAddress).length := (hnodup.subperm hsub).length_le
    _ = 22 := by rw [List.length_erase_of_mem hmem]; rfl

theorem outgoingOrdered_restarted (how : ResetKind) (u : TicketUnit) (queue : List Instr) :
    OutgoingOrdered (.restarted how u queue) :=
  ⟨offlineQuiet_restarted _ _ _, LineController.ordered_of_empty rfl rfl rfl⟩

theorem kept_outgoingOrdered : KeptThroughout OutgoingOrdered where
  move m h := m.outgoingOrdered h
  por := outgoingOrdered_restarted _ _
  rstn _ _ := outgoingOrdered_restarted _ _ _
  collect {s} h number := by
    rw [outgoingOrdered_iff] at h ⊢
    rw [State.onTicket_ticket, TicketUnit.collect_series]
    exact h
  queue h _ := h

theorem TicketUnit.fits_reset : TicketUnit.reset.Fits .offline :=
  TicketUnit.fits_of_none rfl (Nat.zero_le 4) rfl Phase.noConfusion

theorem TicketUnit.numbered_reset : TicketUnit.reset.Numbered := by
  unfold TicketUnit.Numbered
  decide

theorem kept_ticketsAgree : KeptThroughout TicketsAgree where
  move m h := m.ticketsAgree h
  por _ := ⟨offlineQuiet_restarted _ _ _, TicketUnit.fits_reset⟩
  rstn h _ := ⟨offlineQuiet_restarted _ _ _, ((ticketsAgree_iff _).mp h).2.rstn _⟩
  collect h number := ⟨h.1, ((ticketsAgree_iff _).mp h).2.collect number⟩
  queue h _ := h

theorem kept_numbersDiffer : KeptThroughout NumbersDiffer where
  move m h := m.numbersDiffer h
  por queue := ⟨kept_ticketsAgree.por queue, TicketUnit.numbered_reset⟩
  rstn h how := ⟨kept_ticketsAgree.rstn h.1 how, ((numbersDiffer_iff _).mp h).2.rstn _⟩
  collect h number := ⟨kept_ticketsAgree.collect h.1 number, ((numbersDiffer_iff _).mp h).2.collect number⟩
  queue h _ := h

/-- R33, R37: the sequence at its reset values stands for "OFFLINE". -/
theorem Sequence.holdFits_reset (ticketOpen : Bool) : Sequence.reset.HoldFits .offline ticketOpen :=
  ⟨iff_of_false (by decide) (by decide), fun k => absurd k (by decide), fun k => absurd k (by decide)⟩

theorem kept_holdKept : KeptThroughout HoldKept where
  move m h := m.holdKept h
  por queue := ⟨kept_ticketsAgree.por queue, Sequence.holdFits_reset _⟩
  rstn h how := ⟨kept_ticketsAgree.rstn h.1 how, Sequence.holdFits_reset _⟩
  collect {s} h number := by
    refine ⟨kept_ticketsAgree.collect h.1 number, ?_⟩
    rw [State.ticketOpen, State.onTicket_ticket, TicketUnit.collect_current]
    exact h.2
  queue h _ := h

theorem checkInPhase_restarted (how : ResetKind) (u : TicketUnit) (queue : List Instr) :
    CheckInPhase (.restarted how u queue) :=
  ⟨offlineQuiet_restarted _ _ _, iff_of_false (fun k => k rfl) Phase.noConfusion⟩

theorem kept_checkInPhase : KeptThroughout CheckInPhase where
  move m h := m.checkInPhase h
  por := checkInPhase_restarted _ _
  rstn _ _ := checkInPhase_restarted _ _ _
  collect h _ := h
  queue h _ := h

theorem pushQuiet_restarted (how : ResetKind) (u : TicketUnit) (queue : List Instr) : PushQuiet (.restarted how u queue) :=
  fun _ => ⟨rfl, rfl, rfl, rfl⟩

theorem kept_pushQuiet : KeptThroughout PushQuiet where
  move m h := m.pushQuiet h
  por := pushQuiet_restarted _ _
  rstn _ _ := pushQuiet_restarted _ _ _
  collect h _ := h
  queue h _ := h

theorem grantsBounded_restarted (how : ResetKind) (u : TicketUnit) (queue : List Instr) :
    GrantsBounded (.restarted how u queue) :=
  ⟨offlineQuiet_restarted _ _ _, ShareUnit.bounded_of_zero (fun p => by cases p <;> rfl)⟩

theorem kept_grantsBounded : KeptThroughout GrantsBounded where
  move m h := m.grantsBounded h
  por := grantsBounded_restarted _ _
  rstn _ _ := grantsBounded_restarted _ _ _
  collect h _ := h
  queue h _ := h

/-! ## The obligations -/

/-- Settles O51: every move keeps the valve commands, targets and openings in agreement. -/
theorem stepKeepsInterlocks : Obligations.StepKeepsInterlocks :=
  fun _ _ h he => kept_interlocked.step h he

/-- Settles O52: every move keeps trips and phase in agreement. -/
theorem stepKeepsTripsAgreeing : Obligations.StepKeepsTripsAgreeing :=
  fun _ _ h he => kept_tripsAgree.step h he

/-- Settles O53: every move keeps the records, and distinct addresses bound their number. -/
theorem stepKeepsPeerTable : Obligations.StepKeepsPeerTable :=
  fun _ _ h he => have ht := kept_peersKept.step h he; ⟨ht, ht.length_le⟩

/-- Settles O54: every move keeps the list's order. -/
theorem stepKeepsOutgoingOrder : Obligations.StepKeepsOutgoingOrder :=
  fun _ _ h he => kept_outgoingOrdered.step h he

/-- Settles O55: every move, and a COLLECT, keeps the numbers distinct. -/
theorem stepKeepsTicketNumbers : Obligations.StepKeepsTicketNumbers :=
  fun _ _ h he => kept_numbersDiffer.step h he

/-- Settles O56: every move keeps each of the three. -/
theorem stepKeepsHoldAndCheck : Obligations.StepKeepsHoldAndCheck :=
  fun _ _ he => ⟨fun h => kept_holdKept.step h he, fun h => kept_checkInPhase.step h he, fun h => kept_pushQuiet.step h he⟩

/-- Settles O57: every move keeps the grants bounded. -/
theorem stepKeepsGrantBounds : Obligations.StepKeepsGrantBounds :=
  fun _ _ h he => kept_grantsBounded.step h he

end Sys2Proof.Machine
end


section
/-!
PROOFS. The rules of the whole part (O58 to O60): what a chain of moves leaves of the phase, the line controller's state, the
latched causes, the configuration and the tickets.
-/

namespace Sys2Proof.Machine

open Sys2Proof

variable {c : Instr} {s t : State}

/-- What every move keeps, a chain of moves from a quiet part keeps. -/
theorem Moves.keep {R : State → Prop} (hm : Moves c s t) (hquiet : OfflineQuiet s)
    (hmove : ∀ {u v}, OfflineQuiet u → Move c u v → R u → R v) (h : R s) : R t := by
  suffices hboth : OfflineQuiet t ∧ R t from hboth.2
  induction hm with
  | refl => exact ⟨hquiet, h⟩
  | tail _ m ih =>
    obtain ⟨hq, hr⟩ := ih
    exact ⟨m.offlineQuiet hq, hmove hq m hr⟩

/-! ## Phase, line controller and latched causes -/

/-- R39, R160: "TRIPPED" stands through every move but those of a sample event. -/
theorem Move.tripped_stands (hquiet : OfflineQuiet s) (m : Move c s t)
    (hc : ¬ ∃ counts levels order, c = .sampleEvent counts levels order) (h : s.seq.phase = .tripped) :
    t.seq.phase = .tripped := by
  cases m with
  | calm k => exact k.phase.trans h
  | release image _ ha => exact absurd (h.symm.trans (hquiet.offline_of_attempting ha)) (by decide)
  | drive q v hphase => exact hphase.trans h
  | enter r p k =>
    have hp : p = .tripped := by_contra fun hp => hc (k.leaves h hp)
    simpa using hp
  | loading | straps | uptime | line | trips | grants | peers | closes => exact h

/-- R19, R188: "OFFLINE" stands through every move but those of an image, and is not entered by any. -/
theorem Move.offline_iff (hquiet : OfflineQuiet s) (m : Move c s t) (hc : ¬ ∃ image, c = .imageReadComplete image) :
    t.seq.phase = .offline ↔ s.seq.phase = .offline := by
  cases m with
  | calm k => rw [k.phase]
  | release image hi => exact absurd ⟨image, hi⟩ hc
  | drive q v hphase => rw [hphase]
  | enter r p k =>
    rw [State.enterPhase_seq]
    exact iff_of_false k.target (k.phase_ne hquiet)
  | loading | straps | uptime | line | trips | grants | peers | closes => rfl

/-- R108: "SILENT" stands through every move. -/
theorem Move.silent_stands (hquiet : OfflineQuiet s) (m : Move c s t) (h : s.line.state = .silent) : t.line.state = .silent := by
  cases m with
  | calm k => exact k.lineState.trans h
  | release image _ ha =>
    have hoff := (hquiet.2.1 (hquiet.offline_of_attempting ha)).1
    exact absurd (h.symm.trans hoff) (by decide)
  | line l series _ hs => exact hs h
  | enter r p k => rw [State.enterPhase_lineState, k.line, h]
  | loading | straps | uptime | drive | trips | grants | peers | closes => exact h

/-- R163: a latched CONFLICT stays latched through every move. -/
theorem Move.conflict_stands (m : Move c s t) (h : .conflict ∈ s.trip.latched) : .conflict ∈ t.trip.latched := by
  cases m with
  | calm k => exact k.trip ▸ h
  | release => simpa using h
  | enter r p k => simpa using k.conflict h
  | trips u _ _ hconflict => exact hconflict h
  | loading | straps | uptime | line | drive | grants | peers | closes => exact h

/-- R183, R188: what stands from the release to the next reset. -/
structure Standing (s t : State) : Prop where
  phase : t.seq.phase ≠ .offline
  inUse : t.loader.inUse = s.loader.inUse
  signature : t.loader.signature = s.loader.signature
  ownAddress : t.loader.ownAddress = s.loader.ownAddress
  cause : t.loader.cause = s.loader.cause

theorem Standing.refl (h : s.seq.phase ≠ .offline) : Standing s s := ⟨h, rfl, rfl, rfl, rfl⟩

theorem Standing.of_loader {u v : State} (h : Standing s u) (hphase : v.seq.phase ≠ .offline) {port : Port}
    (hl : v.loader = { u.loader with port := port }) : Standing s v :=
  ⟨hphase, by rw [hl]; exact h.inUse, by rw [hl]; exact h.signature, by rw [hl]; exact h.ownAddress, by rw [hl]; exact h.cause⟩

theorem Move.standing {u v : State} (hquiet : OfflineQuiet u) (m : Move c u v) (h : Standing s u) : Standing s v := by
  have hp := h.phase
  cases m with
  | calm k => exact h.of_loader (by rw [k.phase]; exact hp) k.loader
  | loading f ha => exact absurd (hquiet.offline_of_attempting ha) hp
  | straps n hr => exact absurd (hquiet.offline_of_resetting hr) hp
  | release image _ ha => exact absurd (hquiet.offline_of_attempting ha) hp
  | drive q w hphase => exact h.of_loader (by rw [hphase]; exact hp) (port := u.loader.port) rfl
  | enter r p k =>
    exact h.of_loader (by simpa using k.target) (port := u.loader.port) (by rw [State.enterPhase_loader, k.loader])
  | uptime | line | trips | grants | peers | closes => exact h.of_loader hp (port := u.loader.port) rfl

/-! ## Tickets -/

theorem TicketFlow.marker (u : TicketUnit) (b : Bool) : TicketFlow u { u with meterMarker := b } := ⟨rfl, .inl ⟨rfl, .refl _⟩⟩

/-- R174: the ticket unit at a move of a command other than a passed check and an uptime second. -/
theorem Move.flow (m : Move c s t) (hcheck : c ≠ .checkTimerExpiry) (hsecond : c ≠ .uptimeSecond) :
    TicketFlow s.ticket t.ticket := by
  cases m with
  | calm k => exact k.ticket.flow
  | release =>
    rw [State.release_ticket]
    exact .marker _ _
  | uptime hc => exact absurd hc hsecond
  | line => exact ⟨rfl, .inl ⟨rfl, .refl _⟩⟩
  | enter r p k =>
    rw [State.enterPhase_ticket]
    exact (k.flow hcheck).trans (.marker _ _)
  | closes => exact TicketUnit.flow_closeTicket _ _ _
  | loading | straps | drive | trips | grants | peers => exact .refl _

theorem Moves.flow (hm : Moves c s t) (hcheck : c ≠ .checkTimerExpiry) (hsecond : c ≠ .uptimeSecond) :
    TicketFlow s.ticket t.ticket := by
  induction hm with
  | refl => exact .refl _
  | tail _ m ih => exact ih.trans (m.flow hcheck hsecond)

/-- R174: no ticket opens where tickets flow on. -/
theorem TicketFlow.current_none {u v : TicketUnit} (h : TicketFlow u v) (hu : u.current.isSome = false) :
    v.current.isSome = false := by
  rcases h.cases with ⟨_, hgrows⟩ | ⟨k, _, hk, _⟩
  · rw [hgrows.isSome, hu]
  · simp [hk] at hu

theorem CollectMoves.current_none (hm : CollectMoves c s t) (hcheck : c ≠ .checkTimerExpiry) (hsecond : c ≠ .uptimeSecond)
    (h : s.ticketOpen = false) : t.ticketOpen = false := by
  rcases hm with hm | ⟨u, number, _, hu, rfl⟩
  · exact (hm.flow hcheck hsecond).current_none h
  · simpa [State.ticketOpen, hu] using h

/-- R51, R52: a check that fails leaves the tickets as they are. -/
theorem State.failCheck_ticket (code : Code) (s : State) : (s.failCheck code).ticket = { s.ticket with meterMarker := false } := by
  simp [State.failCheck, State.dropCheck]

/-- R53: a passed check opens a ticket. -/
theorem State.passCheck_ticket (s : State) :
    s.passCheck.ticket = { s.ticket.openTicket s.loader.ownAddress s.input.identity with meterMarker := false } := by
  simp [State.passCheck]

theorem State.passCheck_phase (s : State) : s.passCheck.seq.phase = .push := by
  simp [State.passCheck]

/-- R51 to R53: the end of the hold test passes, fails, or is none. -/
theorem execCheckTimerExpiry_cases (he : exec .checkTimerExpiry s = .next t) :
    (s.seq.phase = .check ∧ t = s.passCheck) ∨ (s.seq.phase = .check ∧ t = s.failCheck .fl) ∨ t = s := by
  have he : execCheckTimerExpiry s = .next t := he
  unfold execCheckTimerExpiry at he
  obtain rfl := Host.Outcome.next.inj he
  split
  · rename_i h
    split
    · exact .inl ⟨h.1, rfl⟩
    · exact .inr (.inl ⟨h.1, rfl⟩)
  · exact .inr (.inr rfl)

/-- R168: an uptime second changes the uptime alone, which never falls. -/
theorem execUptimeSecond_cases (he : exec .uptimeSecond s = .next t) :
    ∃ n, t = s.onTicket (fun u => { u with uptime := n }) ∧ (s.ticket.uptime ≤ 4294967295 → s.ticket.uptime ≤ n) := by
  have he : execUptimeSecond s = .next t := he
  unfold execUptimeSecond at he
  obtain rfl := Host.Outcome.next.inj he
  split
  · exact ⟨s.ticket.uptime, rfl, fun _ => le_rfl⟩
  · exact ⟨_, rfl, fun h => le_min h (Nat.le_succ _)⟩

/-- R53: a ticket opens at a passed check alone, which begins "PUSH". -/
theorem phase_of_check_opens (he : exec .checkTimerExpiry s = .next t) (h : s.ticketOpen = false)
    (ht : t.ticketOpen = true) : t.seq.phase = .push := by
  rcases execCheckTimerExpiry_cases he with ⟨_, rfl⟩ | ⟨_, rfl⟩ | rfl
  · exact s.passCheck_phase
  · rw [State.ticketOpen, State.failCheck_ticket] at ht
    exact Bool.noConfusion (h.symm.trans ht)
  · exact Bool.noConfusion (h.symm.trans ht)

/-- R19, R188: only a valid image ends "OFFLINE", and the phase then is "IDLE". -/
theorem execImageReadComplete_offline {image : Vector Byte 192} (he : exec (.imageReadComplete image) s = .next t)
    (hs : s.seq.phase = .offline) (ht : t.seq.phase ≠ .offline) : t.seq.phase = .idle ∧ judgeImage image.toList = none := by
  have he : execImageReadComplete image s = .next t := he
  unfold execImageReadComplete State.judge at he
  obtain rfl := Host.Outcome.next.inj he
  split at ht
  · split at ht
    · exact absurd hs ht
    · rename_i ha _ hj
      rw [if_pos ha, hj]
      exact ⟨by simp, rfl⟩
  · exact absurd hs ht

/-- What a command other than a reset does: moves, and at most the taking out of a collected ticket. -/
theorem exec_cases (he : exec c s = .next t) : c = .por ∨ c = .rstn ∨ (¬ Collects c ∧ Moves c s t) ∨
    (Collects c ∧ CollectMoves c s t) := by
  by_cases hpor : c = .por
  · exact .inl hpor
  · by_cases hrstn : c = .rstn
    · exact .inr (.inl hrstn)
    · obtain ⟨u, hu, hm⟩ := exec_moves c s hpor hrstn
      obtain rfl := Host.Outcome.next.inj (hu.symm.trans he)
      exact .inr (.inr hm)

/-- A command other than a reset makes moves, but for the tickets. -/
theorem CollectMoves.keep {R : State → Prop} (hm : CollectMoves c s t) (hquiet : OfflineQuiet s)
    (hmove : ∀ {u v}, OfflineQuiet u → Move c u v → R u → R v) (hcollect : ∀ {u n}, R u → R (u.onTicket (TicketUnit.collect n)))
    (h : R s) : R t := by
  rcases hm with hm | ⟨u, number, hm, _, rfl⟩
  · exact Moves.keep hm hquiet hmove h
  · exact hcollect (Moves.keep hm hquiet hmove h)

/-- What every move and a COLLECT keep, a command other than a reset keeps. -/
theorem exec_keep {R : State → Prop} (he : exec c s = .next t) (hpor : c ≠ .por) (hrstn : c ≠ .rstn) (hquiet : OfflineQuiet s)
    (hmove : ∀ {u v}, OfflineQuiet u → Move c u v → R u → R v) (hcollect : ∀ {u n}, R u → R (u.onTicket (TicketUnit.collect n)))
    (h : R s) : R t := by
  rcases exec_cases he with hc | hc | ⟨_, hm⟩ | ⟨_, hm⟩
  · exact absurd hc hpor
  · exact absurd hc hrstn
  · exact Moves.keep hm hquiet hmove h
  · exact hm.keep hquiet hmove hcollect h

theorem Collects.ne_check (h : Collects c) : c ≠ .checkTimerExpiry := by
  rintro rfl
  simp [Collects] at h

theorem Collects.ne_second (h : Collects c) : c ≠ .uptimeSecond := by
  rintro rfl
  simp [Collects] at h

/-- R53: no other command opens a ticket. -/
theorem ticket_stays_closed (he : exec c s = .next t) (hcheck : c ≠ .checkTimerExpiry) (h : s.ticketOpen = false) :
    t.ticketOpen = false := by
  by_cases hsecond : c = .uptimeSecond
  · subst hsecond
    obtain ⟨n, rfl, _⟩ := execUptimeSecond_cases he
    exact h
  rcases exec_cases he with rfl | rfl | ⟨_, hm⟩ | ⟨_, hm⟩
  · obtain rfl := Host.Outcome.next.inj he
    rfl
  · obtain rfl := Host.Outcome.next.inj he
    change (s.ticket.closeTicket .reset s.det.throttle).current.isSome = false
    rw [TicketUnit.closeTicket_current]
    rfl
  · exact (Moves.flow hm hcheck hsecond).current_none h
  · exact hm.current_none hcheck hsecond h

/-- Settles O58: along the moves of any other command each of these states stands. -/
theorem onlyTheirEventsLeaveStates : Obligations.OnlyTheirEventsLeaveStates := by
  intro c s t hquiet he
  have hreset : ∀ {R : State → Prop}, (c = .por ∨ c = .rstn → R t) → R s →
      (∀ {u v}, OfflineQuiet u → Move c u v → R u → R v) → (∀ {u n}, R u → R (u.onTicket (TicketUnit.collect n))) → R t := by
    intro R hr hs hmove hcollect
    by_cases hc : c = .por ∨ c = .rstn
    · exact hr hc
    · exact exec_keep he (fun h => hc (.inl h)) (fun h => hc (.inr h)) hquiet hmove hcollect hs
  refine ⟨fun hs ht => ?_, fun hs ht => ?_, fun hs ht => ?_, fun hs ht => ?_, fun hs ht => ?_⟩
  · by_contra hc
    simp only [not_or] at hc
    exact ht (exec_keep (R := fun u => u.seq.phase = .tripped) he hc.1 hc.2.1 hquiet
      (fun hq m h => m.tripped_stands hq hc.2.2 h) id hs)
  · rcases Classical.em (∃ image, c = .imageReadComplete image) with ⟨image, rfl⟩ | hc
    · obtain ⟨hidle, hvalid⟩ := execImageReadComplete_offline he hs ht
      exact ⟨hidle, image, rfl, hvalid⟩
    · exact absurd (hreset (R := fun u => u.seq.phase = .offline) (by
        rintro (rfl | rfl) <;> obtain rfl := Host.Outcome.next.inj he <;> rfl) hs
        (fun hq m h => (m.offline_iff hq hc).mpr h) id) ht
  · by_contra hc
    exact ht (hreset (R := fun u => u.line.state = .silent) (fun k => absurd k hc) hs (fun hq m h => m.silent_stands hq h) id)
  · by_contra hc
    exact ht (hreset (R := fun u => .conflict ∈ u.trip.latched) (fun k => absurd k hc) hs (fun _ m h => m.conflict_stands h) id)
  · by_cases hc : c = .checkTimerExpiry
    · subst hc
      exact ⟨rfl, phase_of_check_opens he hs ht⟩
    · exact Bool.noConfusion ((ticket_stays_closed he hc hs).symm.trans ht)

/-! ## Configuration and uptime -/

/-- R168: the uptime stands through every other command. -/
theorem uptime_stands (he : exec c s = .next t) (hpor : c ≠ .por) (hsecond : c ≠ .uptimeSecond) :
    t.ticket.uptime = s.ticket.uptime := by
  by_cases hcheck : c = .checkTimerExpiry
  · subst hcheck
    rcases execCheckTimerExpiry_cases he with ⟨_, rfl⟩ | ⟨_, rfl⟩ | rfl
    · rw [State.passCheck_ticket]
      rfl
    · rw [State.failCheck_ticket]
    · rfl
  · rcases exec_cases he with hc | rfl | ⟨_, hm⟩ | ⟨_, hm⟩
    · exact absurd hc hpor
    · obtain rfl := Host.Outcome.next.inj he
      exact TicketUnit.closeTicket_uptime _ _ _
    · exact (Moves.flow hm hcheck hsecond).uptime
    · rcases hm with hm | ⟨u, number, _, hu, rfl⟩
      · exact (Moves.flow hm hcheck hsecond).uptime
      · simp [hu]

/-- Settles O59: no move of a released part changes its loader but for the memory port, and the uptime moves by its own
commands. -/
theorem configurationStandsUntilReset : Obligations.ConfigurationStandsUntilReset := by
  intro c s t hquiet he
  refine ⟨fun hp hpor hrstn => ?_, uptime_stands he, fun hpor hmax => ?_⟩
  · have hstanding : Standing s t := exec_keep he hpor hrstn hquiet (fun hq m h => m.standing hq h)
      (fun h => ⟨h.phase, h.inUse, h.signature, h.ownAddress, h.cause⟩) (Standing.refl hp)
    have hq : OfflineQuiet t := kept_offlineQuiet.exec hquiet he
    exact ⟨hstanding.phase, hq.not_resetting hstanding.phase, hstanding.inUse, hstanding.signature, hstanding.ownAddress,
      (hq.2.2 hstanding.phase).1, hstanding.cause⟩
  · by_cases hsecond : c = .uptimeSecond
    · subst hsecond
      obtain ⟨n, rfl, hn⟩ := execUptimeSecond_cases he
      exact hn hmax
    · exact (uptime_stands he hpor hsecond).ge

/-! ## No ticket is lost -/

/-- R170, R173, R174: what becomes of the open ticket `k`: it stays open, grown, or is the last of the store, closed. -/
def OpenGoesOn (u v : TicketUnit) : Prop :=
  ∀ k, u.current = some k → ∃ m, k.Grows m ∧ (v.current = some m ∨
    (v.current = none ∧ v.store = u.store ++ [m] ∧
      m.closeTime = some u.uptime ∧ m.finalThrottle.isSome = true ∧ m.endReason.isSome = true))

theorem OpenGoesOn.of_same {u v : TicketUnit} (h : v.current = u.current) : OpenGoesOn u v :=
  fun k hk => ⟨k, .refl k, .inl (h.trans hk)⟩

theorem TicketFlow.goesOn {u v : TicketUnit} (h : TicketFlow u v) : OpenGoesOn u v := by
  intro k hk
  rcases h.cases with ⟨_, hgrows⟩ | ⟨j, m, hj, hm, hclosed⟩
  · rw [hk] at hgrows
    cases hv : v.current with
    | none => rw [hv] at hgrows; cases hgrows
    | some m =>
      rw [hv] at hgrows
      cases hgrows with
      | some hm => exact ⟨m, hm, .inl rfl⟩
  · obtain rfl := Option.some.inj (hj.symm.trans hk)
    exact ⟨m, hm, .inr hclosed⟩

theorem TicketFlow.store_prefix {u v : TicketUnit} (h : TicketFlow u v) : u.store <+: v.store := by
  rcases h.cases with ⟨hstore, _⟩ | ⟨_, _, _, _, _, hstore, _⟩
  · rw [hstore]
  · rw [hstore]
    exact List.prefix_append _ _

/-- R180: the ticket unit at an RSTN flows on. -/
theorem TicketUnit.flow_rstn (throttle : Nat) (u : TicketUnit) : TicketFlow u (u.rstn throttle) :=
  (u.flow_closeTicket .reset throttle).trans ⟨rfl, .inl ⟨rfl, .refl _⟩⟩

/-- R53: the check's end leaves the store; in "CHECK" no ticket is open. -/
theorem check_tickets (he : exec .checkTimerExpiry s = .next t) (h : TicketsAgree s) :
    t.ticket.store = s.ticket.store ∧ OpenGoesOn s.ticket t.ticket := by
  rcases execCheckTimerExpiry_cases he with ⟨hp, rfl⟩ | ⟨_, rfl⟩ | rfl
  · have hnone := ((ticketsAgree_iff s).mp h).2.current_none (by rw [hp]; rfl) (by rw [hp]; decide)
    refine ⟨by rw [State.passCheck_ticket]; rfl, fun k hk => ?_⟩
    rw [hk] at hnone
    exact Bool.noConfusion hnone
  · exact ⟨by rw [State.failCheck_ticket], .of_same (by rw [State.failCheck_ticket])⟩
  · exact ⟨rfl, .of_same rfl⟩

theorem tickets_go_on (he : exec c s = .next t) (h : TicketsAgree s) (hpor : c ≠ .por) :
    (¬ Collects c → s.ticket.store <+: t.ticket.store) ∧ OpenGoesOn s.ticket t.ticket := by
  by_cases hcheck : c = .checkTimerExpiry
  · subst hcheck
    obtain ⟨hstore, hopen⟩ := check_tickets he h
    exact ⟨fun _ => by rw [hstore], hopen⟩
  by_cases hsecond : c = .uptimeSecond
  · subst hsecond
    obtain ⟨n, rfl, _⟩ := execUptimeSecond_cases he
    exact ⟨fun _ => List.prefix_rfl, .of_same rfl⟩
  rcases exec_cases he with hc | rfl | ⟨_, hm⟩ | ⟨hc, hm⟩
  · exact absurd hc hpor
  · obtain rfl := Host.Outcome.next.inj he
    have hflow := s.ticket.flow_rstn s.det.throttle
    exact ⟨fun _ => hflow.store_prefix, hflow.goesOn⟩
  · have hflow := Moves.flow hm hcheck hsecond
    exact ⟨fun _ => hflow.store_prefix, hflow.goesOn⟩
  · refine ⟨fun k => absurd hc k, ?_⟩
    rcases hm with hm | ⟨u, number, _, hu, rfl⟩
    · exact (Moves.flow hm hcheck hsecond).goesOn
    · exact .of_same (by rw [State.onTicket_ticket, TicketUnit.collect_current, hu])

/-- Settles O60: the moves of every command but an uptime second and a check's end let the tickets flow on, those two keep
them, and a COLLECT leaves the open one. -/
theorem ticketsAreNeverLost : Obligations.TicketsAreNeverLost := by
  intro c s t h he hpor
  obtain ⟨hstore, hopen⟩ := tickets_go_on he h hpor
  refine ⟨fun hcollect hdiscarded => hstore ?_, fun k hk hdelivered hrecovered => ?_⟩
  · rintro (⟨source, target, number, hc⟩ | ⟨source, payload, hc⟩)
    · exact hcollect source target number hc
    · exact hdiscarded source payload hc
  · obtain ⟨m, hm, hend⟩ := hopen k hk
    exact ⟨m, hm.number, hm.station, hm.identity, hm.openTime, (hm.delivered hdelivered).1, (hm.delivered hdelivered).2,
      (hm.recovered hrecovered).1, (hm.recovered hrecovered).2, hm.peak, hm.notes, hm.overflow, hend⟩

end Sys2Proof.Machine
end


section
/-!
PROOFS. The queue, the passing of time, the resets, the loader and the small events (O1, O3 to O10, O16).
-/

namespace Sys2Proof.Machine

open Sys2Proof

/-! ## The queue and the passing of time -/

/-- Settles O1: `step` takes the queue's head. -/
theorem stepRunsFrontCommand : Obligations.StepRunsFrontCommand :=
  fun _ _ _ => rfl

/-- R125 to R127: an age counts one unit and holds at its limit. -/
theorem ageTo_eq (limit n : Nat) : ageTo limit n = if n < limit then n + 1 else n := by
  unfold ageTo
  split <;> omega

theorem step_of_empty {s : State} (h : s.pending = []) : step s = .next s.elapse := by
  unfold step
  rw [h]

/-- R103: outside an attempt time passes. -/
theorem State.elapse_of_not_sending {s : State} (h : s.line.sending = false) : s.elapse = s.tick := by
  unfold State.elapse
  unfold LineController.sending at h
  split <;> simp_all

/-- Settles O3: an attempt goes on, and outside it every timer and age counts its unit. -/
theorem idleStepCountsTime : Obligations.IdleStepCountsTime := by
  intro s hempty
  rw [step_of_empty hempty]
  refine ⟨fun h => ?_, fun h => ?_, fun h => ?_, fun h => ?_⟩
  · rw [State.elapse, h]
    rfl
  · rw [State.elapse, h]
    rfl
  · rw [State.elapse, h]
  · rw [State.elapse_of_not_sending h]
    have hpeer : Peer.tick s.cfg = fun p => match p.liveness with
        | .current =>
          { p with age := if p.age < s.cfg.staleCount * s.cfg.announcePeriod then p.age + 1 else p.age }
        | .stale =>
          { p with age := if p.age < s.cfg.lapseCount * s.cfg.announcePeriod then p.age + 1 else p.age }
        | .lapsed =>
          { p with lapsedTime := if p.lapsedTime < 10 * s.cfg.forgetTime then p.lapsedTime + 1 else p.lapsedTime } := by
      funext p
      simp only [Peer.tick, ageTo_eq, staleThreshold, lapseThreshold] <;> cases p.liveness <;> rfl
    simp only [State.tick, Sequence.tick, DetectorUnit.tick, ValveDriver.tick, LineController.tick,
      LineController.recessiveLater, ageTo_eq, tickTo_eq_counted, hpeer, spacingTime, ite_not] <;> rfl

/-! ## Resets -/

/-- R16, R45, R58, R80, R95, R117, R131, R152, R167: a part just reset holds its reset values. -/
theorem resetValues_restarted (how : ResetKind) (u : TicketUnit) (queue : List Instr) :
    ResetValues (.restarted how u queue) where
  loaderState := ⟨rfl, rfl, rfl⟩
  configuration := ⟨rfl, rfl⟩
  sensors := by simp [State.restarted, State.reset, InputUnit.reset, Sensor.reset]
  pulses := ⟨rfl, rfl, rfl, rfl⟩
  flow := ⟨rfl, rfl⟩
  debouncers := by simp [State.restarted, State.reset, InputUnit.reset, Debouncer.reset]
  tag := ⟨rfl, rfl, rfl, rfl, rfl⟩
  phase := ⟨rfl, rfl, rfl, rfl⟩
  steps := ⟨rfl, rfl, rfl⟩
  phaseTimers := ⟨rfl, rfl, rfl⟩
  tempCode := ⟨rfl, rfl⟩
  check := rfl
  detectors := rfl
  valves := rfl
  line := ⟨rfl, rfl, rfl, rfl⟩
  lineCounts := ⟨rfl, rfl, rfl, rfl, rfl, rfl⟩
  announceTimers := ⟨rfl, rfl, rfl⟩
  peers := rfl
  grants := ⟨rfl, rfl⟩
  island := ⟨rfl, rfl, rfl⟩
  rings := fun p => by cases p <;> simp [State.restarted, State.reset, ShareUnit.reset, Pools.get]
  trip := ⟨rfl, rfl⟩
  outputs := ⟨rfl, rfl, rfl⟩

theorem State.reset_eq_restarted : State.reset = .restarted .por .reset [] := rfl

/-- Settles O4: every invariant holds of a part just reset. -/
theorem resetStateIsAfterPowerOn : Obligations.ResetStateIsAfterPowerOn := by
  unfold Obligations.ResetStateIsAfterPowerOn
  rw [State.reset_eq_restarted]
  exact ⟨resetValues_restarted _ _ _, rfl, rfl, rfl, rfl, kept_interlocked.por _, kept_tripsAgree.por _,
    kept_numbersDiffer.por _, kept_peersKept.por _, kept_outgoingOrdered.por _, kept_checkInPhase.por _, kept_holdKept.por _,
    kept_pushQuiet.por _, kept_grantsBounded.por _⟩

/-- Settles O5. -/
theorem porResetsEveryBlock : Obligations.PorResetsEveryBlock :=
  fun s => ⟨.restarted .por .reset s.pending, rfl, resetValues_restarted _ _ _, rfl, rfl, rfl, rfl⟩

/-- Settles O6: an RSTN closes the open ticket. -/
theorem rstnKeepsTheTickets : Obligations.RstnKeepsTheTickets := by
  intro s
  refine ⟨_, execRstn_eq s, resetValues_restarted _ _ _, rfl, rfl, ?_, TicketUnit.closeTicket_current _ _ _,
    TicketUnit.closeTicket_nextNumber _ _ _, TicketUnit.closeTicket_uptime _ _ _, rfl, rfl, fun h => ?_, fun k h => ?_⟩
  · exact apply_ite some _ _ _
  · simp [State.restarted, TicketUnit.rstn, TicketUnit.closeTicket, h]
  · simp [State.restarted, TicketUnit.rstn, TicketUnit.closeTicket, h]

/-! ## The loader -/

theorem attempting_of {s : State} (hr : s.resetting = none) (hl : s.loader.state = .reading) (hp : s.loader.port = .attempt) :
    s.attempting = true := (State.attempting_iff s).mpr ⟨hr, hl, hp⟩

/-- Settles O7: each clause is one branch of the loader's commands. -/
theorem loaderReadsInThreeAttempts : Obligations.LoaderReadsInThreeAttempts := by
  intro s straps byte
  refine ⟨fun h => ?_, fun hr hl hp ha => ?_, fun hr hl hp ha => ?_, fun h => ?_⟩
  · change execResetEnd straps s = _
    rw [execResetEnd, if_pos (Option.isSome_iff_ne_none.mpr h)]
  · change execMemoryAttemptFailed byte s = _
    have hthree : s.loader.attempts + 1 < 3 := by omega
    rw [execMemoryAttemptFailed, if_pos (attempting_of hr hl hp)]
    exact congrArg Host.Outcome.next (if_pos hthree)
  · change execMemoryAttemptFailed byte s = _
    have hthree : ¬ s.loader.attempts + 1 < 3 := by omega
    rw [execMemoryAttemptFailed, if_pos (attempting_of hr hl hp)]
    exact congrArg Host.Outcome.next (if_neg hthree)
  · change execMemoryRetryPauseExpiry s = _
    simp only [execMemoryRetryPauseExpiry, State.onLoader, if_pos h]

/-! ## The image's checks (R184 to R186) -/

theorem execImageReadComplete_of_attempting {s : State} (h : s.attempting = true) (image : Vector Byte 192) :
    exec (.imageReadComplete image) s = .next (s.judge image.toList) := by
  change execImageReadComplete image s = _
  rw [execImageReadComplete, if_pos h]

theorem within_iff (lo hi n : Nat) : within lo hi n = true ↔ lo ≤ n ∧ n ≤ hi := by
  simp [within]

theorem groupGood_iff (low high : Int) (g : SensorGroup) : groupGood low high g = true ↔
    low ≤ g.lo ∧ g.lo < g.hi ∧ g.hi ≤ high ∧ 1 ≤ g.holdLimit ∧ g.holdLimit ≤ 50 := by
  simp only [groupGood, within_iff, Bool.and_eq_true, decide_eq_true_eq]
  tauto

/-- R185 (5): the fill bytes. -/
theorem fillGood_iff (image : List Byte) : fillGood image = true ↔ ∀ i < 41, byteAt image (149 + i) = 0 := by
  unfold fillGood byteAt
  rw [List.all_eq_true]
  constructor
  · intro h i hi
    by_cases hlen : 149 + i < image.length
    · have hmem : image[149 + i] ∈ (image.drop 149).take 41 := by
        refine List.mem_iff_getElem.mpr ⟨i, by simp; omega, by simp⟩
      have hz := h _ hmem
      simp only [beq_iff_eq] at hz
      simp [List.getD_eq_getElem?_getD, List.getElem?_eq_getElem hlen, hz]
    · simp [List.getD_eq_getElem?_getD, List.getElem?_eq_none (Nat.le_of_not_lt hlen)]
  · intro h b hb
    obtain ⟨i, hi, rfl⟩ := List.mem_iff_getElem.mp hb
    simp only [List.length_take, List.length_drop, lt_min_iff] at hi
    have hz := h i hi.1
    have hlen : 149 + i < image.length := by omega
    rw [List.getD_eq_getElem?_getD, List.getElem?_eq_getElem hlen] at hz
    simpa using BitVec.eq_of_toNat_eq hz

/-- R185 (4): the sensor groups of an image are in range. -/
def GroupsInRange (image : List Byte) : Prop :=
  ∀ row ∈ groupTable, row.2.1 ≤ signedAt image row.1 ∧ signedAt image row.1 < signedAt image (row.1 + 2) ∧
    signedAt image (row.1 + 2) ≤ row.2.2 ∧ 1 ≤ byteAt image (row.1 + 4) ∧ byteAt image (row.1 + 4) ≤ 50

theorem sensorsGood_iff (image : List Byte) : sensorsGood (settingsOf image).sensors = true ↔ GroupsInRange image := by
  simp only [sensorsGood, groupGood_iff, Bool.and_eq_true, GroupsInRange, groupTable, List.forall_mem_cons]
  simp only [settingsOf, groupAt, and_assoc, List.not_mem_nil, false_imp_iff, implies_true, and_true]

/-- R185 (5): the fill bytes of an image are 0. -/
def FillIsZero (image : List Byte) : Prop := ∀ i < 41, byteAt image (149 + i) = 0

theorem poolsAll_iff (f : Pool → Bool) : poolsAll f = true ↔ f .supply = true ∧ f .ret = true ∧ f .header = true := by
  simp [poolsAll, and_assoc]

/-- R185: the model's check of the ranges is the one of the tables. -/
theorem rangesGood_iff (image : List Byte) : rangesGood image = true ↔ ImageInRange image := by
  have hgroups : ImageInRange image ↔ _ ∧ _ ∧ _ ∧ _ ∧ GroupsInRange image ∧ FillIsZero image := Iff.rfl
  have hfill : fillGood image = true ↔ FillIsZero image := fillGood_iff image
  rw [hgroups]
  simp only [rangesGood, sequenceGood, Bool.and_eq_true, hfill, sensorsGood_iff]
  simp only [sidingGood, detectorsGood, drivesGood, poolsAll_iff, within_iff, Bool.and_eq_true, Bool.or_eq_true,
    decide_eq_true_eq, beq_iff_eq, List.all_eq_true]
  simp [settingsOf, poolsAt, Pools.get, rangeTable, fieldAt, List.range_succ]
  generalize GroupsInRange image = G
  generalize FillIsZero image = F
  constructor
  · rintro ⟨⟨⟨⟨hsiding, hseq⟩, hdet⟩, hdrives⟩, hf⟩
    have hg : G := by
      obtain ⟨⟨⟨⟨⟨⟨⟨⟨⟨⟨_, hg⟩, _⟩, _⟩, _⟩, _⟩, _⟩, _⟩, _⟩, _⟩, _⟩ := hseq
      exact hg
    exact ⟨by omega, by omega, by omega, by omega, hg, hf⟩
  · rintro ⟨hr, hp, hpool, hlt, hg, hf⟩
    refine ⟨⟨⟨⟨by omega, ?_⟩, by omega⟩, by omega⟩, hf⟩
    exact ⟨⟨⟨⟨⟨⟨⟨⟨⟨⟨by omega, hg⟩, by omega⟩, by omega⟩, by omega⟩, by omega⟩, by omega⟩, by omega⟩,
      by omega⟩, by omega⟩, by omega⟩

/-- R186: the table rises where each point is at least the one before it. -/
theorem rising_iff (l : List Nat) : rising l = true ↔ l.IsChain (· ≤ ·) := by
  induction l with
  | nil => simp [rising]
  | cons a rest ih =>
    cases rest with
    | nil => simp [rising]
    | cons b rest => simp [rising, ← ih]

theorem rising_saturation_iff (image : List Byte) : rising (settingsOf image).saturation = true ↔
    ∀ i, i < 10 → halfAt image (91 + 2 * i) ≤ halfAt image (91 + 2 * (i + 1)) := by
  have hsat : (settingsOf image).saturation = (List.range 11).map (fun i => halfAt image (91 + 2 * i)) := rfl
  rw [rising_iff, hsat, List.isChain_map, List.isChain_range_succ]

/-- R184 to R186: the three checks in their order. -/
theorem judgeImage_of_bad_crc {image : List Byte} (hc : ¬ crcBytes (image.take 190) = halfAt image 190) :
    judgeImage image = some .lc := by
  simp [judgeImage, crcGood, hc]

theorem judgeImage_of_bad_range {image : List Byte} (hc : crcBytes (image.take 190) = halfAt image 190)
    (hr : ¬ ImageInRange image) : judgeImage image = some .lr := by
  have hranges : rangesGood image = false := Bool.eq_false_iff.mpr fun h => hr ((rangesGood_iff image).mp h)
  simp [judgeImage, crcGood, hc, hranges]

theorem judgeImage_of_good_range {image : List Byte} (hc : crcBytes (image.take 190) = halfAt image 190)
    (hr : ImageInRange image) : judgeImage image = if rising (settingsOf image).saturation then none else some .lt := by
  cases h : rising (settingsOf image).saturation <;> simp [judgeImage, crcGood, hc, (rangesGood_iff image).mpr hr, h]

/-- Settles O8: the three checks, each by the table it reads. -/
theorem badImageIsRefused : Obligations.BadImageIsRefused := by
  intro s image hr hl hp refused crc point
  have hexec := execImageReadComplete_of_attempting (attempting_of hr hl hp) image
  have hrefused : ∀ cause, judgeImage image.toList = some cause →
      exec (.imageReadComplete image) s = .next (refused cause) := by
    intro cause h
    rw [hexec, State.judge, h]
    rfl
  refine ⟨fun hc => ?_, fun hc hrange => ?_, fun hc hrange hfall => ?_, fun hc hrange hrise => ⟨?_, ?_⟩⟩
  · exact hrefused _ (judgeImage_of_bad_crc hc)
  · exact hrefused _ (judgeImage_of_bad_range hc hrange)
  · refine hrefused _ ?_
    obtain ⟨i, hi, hlt⟩ := hfall
    rw [judgeImage_of_good_range hc hrange, if_neg]
    exact fun h => absurd ((rising_saturation_iff _).mp h i hi) (Nat.not_le.mpr hlt)
  · rw [judgeImage_of_good_range hc hrange, if_pos ((rising_saturation_iff _).mpr hrise)]
  · intro i j hij
    induction j, hij using Nat.le_induction with
    | base => exact fun _ => le_rfl
    | succ j _ ih => exact fun hj => (ih (by omega)).trans (hrise j (by omega))

/-! ## The release (R188) -/

/-- The phases in which every valve is commanded closed, whatever the steps (R81). -/
def Phase.shut : Phase → Bool
  | .idle => true
  | .check => true
  | .hold => true
  | .tripped => true
  | _ => false

/-- R81, R93: all four drives are off, with nothing to open toward. -/
structure ValveDriver.Shut (v : ValveDriver) : Prop where
  lvCommand : v.lvCommand = .closed
  bvCommand : v.bvCommand = .closed
  svTarget : v.svTarget = 0
  rvTarget : v.rvTarget = 0
  svOpening : v.svOpening = 0
  rvOpening : v.rvOpening = 0

theorem State.drives_of_shut {s : State} (h : s.valve.Shut) : s.drives = ⟨false, 0, 0, false⟩ := by
  simp [State.drives, h.lvCommand, h.bvCommand, h.svOpening, h.rvOpening]

/-- R81, R82: a phase change into one of these phases shuts every valve. -/
theorem State.enterPhase_shut {p : Phase} (hp : p.shut = true) (s : State) : (s.enterPhase p).valve.Shut := by
  obtain ⟨sv, rv, hv, _, _, hsv, hrv⟩ := s.enterPhase_valve p
  obtain rfl := hsv (by rintro rfl; exact Bool.noConfusion hp)
  obtain rfl := hrv (by rintro rfl; exact Bool.noConfusion hp)
  rw [hv]
  refine ⟨?_, ?_, rfl, rfl, Nat.min_zero _, Nat.min_zero _⟩
  · rw [ValveDriver.obey_lvCommand]
    cases p <;> first | rfl | exact Bool.noConfusion hp
  · rw [ValveDriver.obey_bvCommand]
    cases p <;> first | rfl | exact Bool.noConfusion hp

theorem State.enterIdle_shut (s : State) : s.enterIdle.valve.Shut := State.enterPhase_shut rfl _

/-- R96, R188: the release shuts every valve and starts the travel timers. -/
theorem State.release_valve (g : Settings) (n : Nat) (s : State) : ∃ v : ValveDriver,
    (s.release g n).valve = v.start ∧ v.Shut := ⟨_, rfl, State.enterIdle_shut _⟩

theorem State.release_input (g : Settings) (n : Nat) (s : State) :
    (s.release g n).input = { s.input with receiver := .waiting, identity := [] } := by
  simp [State.release]

theorem State.release_untouched (g : Settings) (n : Nat) (s : State) :
    Untouched [.loader, .input, .seq, .det, .valve, .line, .share, .ticket] s (s.release g n) := by
  intro b hb
  cases b <;> simp_all [Block.same, State.release]

/-- Settles O9: the release, block by block. -/
theorem validImageReleasesThePart : Obligations.ValidImageReleasesThePart := by
  intro s image hr hl hp hord hv
  have hatt := attempting_of hr hl hp
  have hphase : s.seq.phase = .offline := hord.1.offline_of_attempting hatt
  refine ⟨s.release (settingsOf image.toList) (signatureOf image.toList), ?_, State.release_untouched _ _ _,
    State.release_loader _ _ _, State.release_input _ _ _, State.release_seq _ _ _, ?_, ?_, ?_⟩
  · rw [execImageReadComplete_of_attempting hatt, State.judge, hv]
  · rw [State.release_det, hphase]
    rfl
  · obtain ⟨hempty, _⟩ := hord.2.2.2.2.1 (by simp [LineController.takesRequests, (hord.1.2.1 hphase).1])
    exact State.release_line _ _ (hord.1.2.1 hphase).1 hempty
  · obtain ⟨v, hvalve, hshut⟩ := s.release_valve (settingsOf image.toList) (signatureOf image.toList)
    have hdrives := State.drives_of_shut (s := s.release (settingsOf image.toList) (signatureOf image.toList))
      (hvalve ▸ { hshut with })
    refine ⟨by rw [hvalve]; rfl, by rw [hvalve]; rfl, by rw [hvalve]; rfl, hdrives, by rw [hvalve]; exact hshut.svTarget,
      by rw [hvalve]; exact hshut.rvTarget, fun p => ?_, fun p => ?_, ?_, ?_, State.release_ticket _ _ _⟩
    · rw [State.release_share, ShareUnit.change_rings]
      exact Pools.get_of _ p
    · rw [State.release_share, ShareUnit.change_grant]
      cases p <;> rfl
    · rw [State.release_share]
      rfl
    · rw [State.release_share]
      rfl

/-! ## Small events -/

/-- Settles O16: each clause is one branch of its command. -/
theorem smallEventsCountOne : Obligations.SmallEventsCountOne := by
  intro s
  refine ⟨fun h => ?_, fun h => ?_, fun h m => ?_, fun h => ?_, fun h => ?_⟩
  · change execPulseEdge .liquid s = _
    rw [execPulseEdge, if_pos (by simpa [State.running] using h)]
    rfl
  · change execPulseEdge .vapour s = _
    rw [execPulseEdge, if_pos (by simpa [State.running] using h)]
    rfl
  · change execPulseEdge m s = _
    rw [execPulseEdge, if_neg (by simp [State.running, h])]
  · change execTaginIdleWaitDone s = _
    simp only [execTaginIdleWaitDone, State.onInput, if_pos h]
  · change execUptimeSecond s = _
    rw [execUptimeSecond, if_neg h]
    rfl

end Sys2Proof.Machine
end


section
/-!
PROOFS. The CRC register over bytes followed by their own CRC (O10).
-/

namespace Sys2Proof.Machine

open Sys2Proof

/-! ## The register over its own bits -/

/-- R99: a bit equal to the register's highest one only shifts the register. -/
theorem crcBit_of_high {reg : Nat} {bit : Bool} (h : Nat.ble 32768 reg = bit) : crcBit reg bit = reg * 2 % 65536 := by
  simp [crcBit, h]

/-- The highest of a register's 16 bits after k shifts is the bit k places below it. -/
theorem ble_shifted (reg n : Nat) (hn : n < 16) : Nat.ble 32768 (reg * 2 ^ (15 - n) % 65536) = reg.testBit n := by
  have hlt : reg * 2 ^ (15 - n) % 65536 < 2 ^ 16 := Nat.mod_lt _ (by decide)
  have htop : Nat.ble 32768 (reg * 2 ^ (15 - n) % 65536) = (reg * 2 ^ (15 - n) % 65536).testBit 15 := by
    rw [Nat.testBit_eq_decide_div_mod_eq, Bool.eq_iff_iff, Nat.ble_eq, decide_eq_true_eq]
    omega
  rw [htop, show (65536 : Nat) = 2 ^ 16 from rfl, Nat.testBit_mod_two_pow, Nat.testBit_mul_two_pow]
  simp [show 15 - n ≤ 15 by omega, show 15 - (15 - n) = n by omega]

/-- R99: the low n bits of a register, fed to what its shifts have left of it, leave 0. -/
theorem crcBits_rest (reg n : Nat) (hn : n ≤ 16) : crcBits (reg * 2 ^ (16 - n) % 65536) (bitsOfNat n reg) = 0 := by
  induction n with
  | zero => simp [bitsOfNat, crcBits]
  | succ n ih =>
    rw [bitsOfNat, crcBits, List.foldl_cons, show 16 - (n + 1) = 15 - n by omega,
      crcBit_of_high (ble_shifted reg n (by omega)), ← crcBits]
    have hshift : reg * 2 ^ (15 - n) % 65536 * 2 % 65536 = reg * 2 ^ (16 - n) % 65536 := by
      rw [show 16 - n = 15 - n + 1 by omega, pow_succ, ← mul_assoc, Nat.mod_mul_mod]
    rw [hshift]
    exact ih (by omega)

theorem bitsOfNat_add (a b n : Nat) : bitsOfNat (a + b) n = bitsOfNat a (n / 2 ^ b) ++ bitsOfNat b n := by
  induction a with
  | zero => simp [bitsOfNat]
  | succ a ih =>
    rw [Nat.add_right_comm, bitsOfNat, bitsOfNat, ih, Nat.testBit_div_two_pow]
    rfl

theorem bitsOfNat_mod {w m : Nat} (h : w ≤ m) (n : Nat) : bitsOfNat w (n % 2 ^ m) = bitsOfNat w n := by
  induction w with
  | zero => rfl
  | succ w ih => rw [bitsOfNat, bitsOfNat, ih (by omega), Nat.testBit_mod_two_pow, decide_eq_true (by omega), Bool.true_and]

theorem bitsOfNat_byte (n : Nat) : bitsOfNat 8 (BitVec.ofNat 8 n).toNat = bitsOfNat 8 n := by
  rw [BitVec.toNat_ofNat, bitsOfNat_mod le_rfl]

/-- R99: two bytes, most significant first, feed the sixteen bits of their number. -/
theorem crcBytes_append_half (bytes : List Byte) (n : Nat) :
    crcBytes (bytes ++ bytesOfNat16 n) = crcBits (crcBytes bytes) (bitsOfNat 16 n) := by
  have hbits : bitsOfNat 16 n = bitsOfNat 8 (BitVec.ofNat 8 (n / 256)).toNat ++ bitsOfNat 8 (BitVec.ofNat 8 n).toNat := by
    rw [bitsOfNat_byte, bitsOfNat_byte]
    exact bitsOfNat_add 8 8 n
  simp only [hbits, crcBytes, crcBits, bytesOfNat16, List.foldl_append, List.foldl_cons, List.foldl_nil]

/-- Settles O10: each bit of the CRC meets the same bit at the register's top. -/
theorem crcOfBytesAndTheirCrcIsZero : Obligations.CrcOfBytesAndTheirCrcIsZero := by
  intro bytes
  have hown := crcBits_rest (crcBytes bytes) 16 le_rfl
  rw [Nat.sub_self, pow_zero, mul_one, Nat.mod_eq_of_lt (crcBytes_lt bytes)] at hown
  rw [crcBytes_append_half, hown]

end Sys2Proof.Machine
end


section
/-!
PROOFS. The line controller's own commands and the share unit's entries into and exits from ISLAND (O31 to O36).
-/

namespace Sys2Proof.Machine

open Sys2Proof

variable {s : State}

/-! ## Contention and the ends of an attempt -/

theorem LineController.receives_of_listen {l : LineController} (h : l.state = .listen) (hi : l.track = .idle) :
    l.receives = true := by
  simp [LineController.receives, LineController.listens, h, hi]

theorem LineController.lineIdle_iff (l : LineController) : l.lineIdle = true ↔ l.track = .idle := beq_iff_eq

theorem LineController.lineIdle_false_iff (l : LineController) : l.lineIdle = false ↔ l.track ≠ .idle := beq_eq_false_iff_ne

/-- R157: the cause bits of a TRIP as one number. -/
theorem SidingSet.bytes_eq (d : SidingSet) : d.bytes =
    [0x00#8, BitVec.ofNat 8 (8 * d.drift.toNat + 4 * d.brk.toNat + 2 * d.gas.toNat + d.esd.toNat)] := by
  rcases d with ⟨esd, gas, brk, drift⟩
  cases esd <;> cases gas <;> cases brk <;> cases drift <;> rfl

/-- R102: the flags byte of an ANNOUNCE as one number. -/
theorem State.flagsByte_eq (s : State) : s.flagsByte = BitVec.ofNat 8 (128 * s.trip.outstanding.toNat
    + (if s.share.island = .island then 64 else 0) + s.ticket.store.length) := by
  unfold State.flagsByte byteOfNat
  cases s.trip.outstanding <;> rfl

/-- R177: the four bytes ahead of every part of the pending series. -/
theorem State.reportPayload_head {series : Series} (h : s.ticket.series = some series) (part : Nat) :
    (s.reportPayload part).take 4 = bytesOfNat16 series.number ++ [BitVec.ofNat 8 part, BitVec.ofNat 8 series.parts] := by
  simp [State.reportPayload, h, bytesOfNat16, byteOfNat]

/-- Settles O31: the frame in flight is the one launched from the present state. -/
theorem contentionTakesTheHeadFrame : Obligations.ContentionTakesTheHeadFrame := by
  intro s f rest hlisten hidle hout
  have htrack := s.line.lineIdle_iff.mp hidle
  refine ⟨s.launch f, ?_, rfl, rfl, rfl, rfl, ?_, ?_, ?_, ?_⟩
  · change execContentionStart s = _
    rw [execContentionStart, if_pos ⟨LineController.receives_of_listen hlisten htrack, htrack⟩, hout]
    simp only [if_pos hlisten]
    rfl
  · rintro rfl
    exact s.trip.sidingSet.bytes_eq
  · rintro rfl
    rfl
  · rintro rfl
    change s.announceBytes = _
    rw [State.announceBytes, State.flagsByte_eq]
    rfl
  · rintro part series rfl hseries
    exact State.reportPayload_head hseries part

/-- Settles O33: each clause is one branch of its command. -/
theorem lineStatesFollowTheirEvents : Obligations.LineStatesFollowTheirEvents := by
  intro s place
  refine ⟨fun h => ?_, fun hr hc => ?_, fun h hrun => ?_, fun hoff ht => ?_, fun ht => ?_, fun hi hcase => ?_, fun hi => ?_,
    fun h => ?_⟩
  · change execArbitrationLoss s = _
    rw [execArbitrationLoss, if_pos h]
    rfl
  · change execSendError place s = _
    have hcount : ¬ 8 ≤ s.line.sendErrors + 1 := by omega
    rw [execSendError, if_pos hr, if_neg hcount]
    have hmin : min 8 (s.line.sendErrors + 1) = s.line.sendErrors + 1 := by omega
    cases place <;> simp [State.onLine, LineController.failSend, runsAfterError, trackAfterError, LineController.bitsRead, hmin]
  · change execFaultExit s = _
    rw [execFaultExit, if_pos ⟨h, hrun⟩]
    rfl
  · change execLineIdle s = _
    rw [execLineIdle, if_neg hoff]
    simp only [State.onLine, LineController.becomeIdle, if_pos ht]
  · change execLineIdle s = _
    have hnot : ¬ (s.line.track = .lost ∨ s.line.track = .afterFrame) := by
      rcases ht with ht | ht <;> simp [ht]
    rw [execLineIdle]
    simp only [State.onLine, LineController.becomeIdle, if_neg hnot, ite_self]
  · change execContentionStart s = _
    have htrack := s.line.lineIdle_iff.mp hi
    have hreceives : s.line.receives = true := by
      rcases hcase with ⟨h, _⟩ | h | h <;> simp [LineController.receives, LineController.listens, h, htrack]
    rw [execContentionStart, if_pos ⟨hreceives, htrack⟩]
    cases hout : s.line.outgoing with
    | nil => rfl
    | cons f rest =>
      have hne : ¬ s.line.state = .listen := by
        rcases hcase with ⟨_, h⟩ | h | h
        · exact absurd (hout.symm.trans h) (List.cons_ne_nil f rest)
        · simp [h]
        · simp [h]
      simp only [if_neg hne]
      rfl
  · change execContentionStart s = _
    rw [execContentionStart, if_neg fun h => s.line.lineIdle_false_iff.mp hi h.2]
  · change execStuckLine s = _
    have hoff : ¬ s.line.state = .off := by
      rcases h with h | h <;> simp [h]
    rw [execStuckLine, if_neg hoff, if_pos h]
    rfl

/-! ## ISLAND (R149, R150) -/

theorem poolsZip_get {α β γ : Type} (f : α → β → γ) (a : Pools α) (b : Pools β) (p : Pool) :
    (poolsZip f a b).get p = f (a.get p) (b.get p) := by
  cases p <;> rfl

/-- R149: what an entry into ISLAND leaves. -/
theorem State.enterIsland_spec (how : Nat) (s : State) : Untouched [.share, .ticket] s (s.enterIsland how) ∧
    (s.enterIsland how).ticket = { s.ticket with current := noted .island how s.ticket } ∧
    (s.enterIsland how).share = { s.share with
      island := .island, rings := (s.enterIsland how).share.rings, grant := (s.enterIsland how).share.grant } ∧
    ∀ p, (s.enterIsland how).share.rings.get p = (s.share.rings.get p).map (fun v => min v (s.cfg.allowance.get p)) ∧
      (s.enterIsland how).share.grant.get p =
        if min (s.share.grant.get p) (s.cfg.allowance.get p) < s.cfg.minGrant.get p then 0
        else min (s.share.grant.get p) (s.cfg.allowance.get p) := by
  refine ⟨?_, by simp [State.enterIsland], by simp [State.enterIsland], fun p => ?_⟩
  · intro b hb
    cases b <;> simp_all [Block.same, State.enterIsland]
  · simp [State.enterIsland, poolsZip_get, capRing, orNothing]

/-- R150: what an exit from ISLAND leaves. -/
theorem State.exitIsland_spec (s : State) : Untouched [.share, .ticket] s s.exitIsland ∧
    s.exitIsland.ticket = { s.ticket with current := noted .rejoin 0 s.ticket } ∧
    s.exitIsland.share = { s.share with island := .joined, grant := s.exitIsland.share.grant } ∧
    ∀ p, s.exitIsland.share.grant.get p =
      if min (s.share.grant.get p) (s.share.share.get p) < s.cfg.minGrant.get p then 0
      else min (s.share.grant.get p) (s.share.share.get p) := by
  refine ⟨?_, by simp [State.exitIsland], by simp [State.exitIsland], fun p => ?_⟩
  · intro b hb
    cases b <;> simp_all [Block.same, State.exitIsland]
  · simp [State.exitIsland, orNothing]

/-- What an entry into ISLAND leaves of the share unit and of the ticket unit, as the statements say it. -/
structure CappedAtAllowance (s t : State) : Prop where
  rings : ∀ p, t.share.rings.get p = (s.share.rings.get p).map (fun v => min v (s.cfg.allowance.get p))
  grant : ∀ p, t.share.grant.get p = if min (s.share.grant.get p) (s.cfg.allowance.get p) < s.cfg.minGrant.get p then 0
    else min (s.share.grant.get p) (s.cfg.allowance.get p)

theorem State.enterIsland_capped (how : Nat) (s : State) : CappedAtAllowance s (s.enterIsland how) :=
  have h := (s.enterIsland_spec how).2.2.2
  ⟨fun p => (h p).1, fun p => (h p).2⟩

/-- R147, R149: the share unit at the entry into "FAULT". -/
theorem State.reportFault_spec (s : State) : Untouched [.share, .ticket] s s.reportFault ∧
    s.reportFault.share = { s.share with
      faultMarker := true, island := .island, rings := s.reportFault.share.rings, grant := s.reportFault.share.grant } ∧
    (s.share.island = .island → s.reportFault.share.grant = s.share.grant ∧ s.reportFault.share.rings = s.share.rings ∧
      s.reportFault.ticket = s.ticket) ∧
    (s.share.island = .joined → s.reportFault.ticket = { s.ticket with current := noted .island 2 s.ticket } ∧
      CappedAtAllowance s s.reportFault) := by
  have hmark : Untouched [.share, .ticket] s (s.onShare (fun u => { u with faultMarker := true })) :=
    (s.onShare_untouched _).weaken (by decide)
  cases h : s.share.island with
  | island =>
    have heq : s.reportFault = s.onShare (fun u => { u with faultMarker := true }) := by
      simp [State.reportFault, h]
    rw [heq]
    exact ⟨hmark, by simp [h], fun _ => ⟨rfl, rfl, rfl⟩, fun k => IslandState.noConfusion k⟩
  | joined =>
    have heq : s.reportFault = (s.onShare (fun u => { u with faultMarker := true })).enterIsland 2 := by
      simp [State.reportFault, h]
    obtain ⟨huntouched, hticket, hshare, _⟩ := (s.onShare (fun u => { u with faultMarker := true })).enterIsland_spec 2
    have hcap := (s.onShare (fun u => { u with faultMarker := true })).enterIsland_capped 2
    rw [heq]
    exact ⟨hmark.trans huntouched, hshare, fun k => IslandState.noConfusion k, fun _ => ⟨hticket, hcap.rings, hcap.grant⟩⟩

theorem State.onLine_untouched (f : LineController → LineController) (s : State) : Untouched [.line] s (s.onLine f) := by
  intro b hb
  cases b <;> simp_all [Block.same]

/-- R107: the entry into "FAULT" after a change `f` of the line controller. -/
theorem State.enterFault_spec (f : LineController → LineController) (s : State) :
    let t := (s.onLine f).enterFault
    Untouched [.line, .share, .ticket] s t ∧ t.line = { f s.line with state := .fault, inFlight := none } ∧
    t.share = { s.share with faultMarker := true, island := .island, rings := t.share.rings, grant := t.share.grant } ∧
    (s.share.island = .island → t.share.grant = s.share.grant ∧ t.share.rings = s.share.rings ∧ t.ticket = s.ticket) ∧
    (s.share.island = .joined → t.ticket = { s.ticket with current := noted .island 2 s.ticket } ∧ CappedAtAllowance s t) := by
  intro t
  obtain ⟨huntouched, hshare, hisland, hjoined⟩ :=
    ((s.onLine f).onLine (fun l => { l with state := .fault, inFlight := none })).reportFault_spec
  have hline : Untouched [.line, .share, .ticket] s ((s.onLine f).onLine (fun l => { l with state := .fault, inFlight := none })) :=
    (s.onLine_untouched (fun l => { f l with state := .fault, inFlight := none })).weaken (by decide)
  refine ⟨hline.trans (huntouched.weaken (by decide)), huntouched .line (by decide), hshare, hisland, fun h => ?_⟩
  obtain ⟨hticket, hcap⟩ := hjoined h
  exact ⟨hticket, hcap.rings, hcap.grant⟩

theorem LineController.failSend_line (place : SendErrorPlace) (l : LineController) :
    (l.failSend place).outgoing = l.outgoing ∧ (l.failSend place).unacked = l.unacked ∧
      (l.failSend place).announceTimer = l.announceTimer ∧ (l.failSend place).spacingTimer = l.spacingTimer := by
  cases place <;> exact ⟨rfl, rfl, rfl, rfl⟩

/-- The two ways into "FAULT" are an entry after a change of the line controller that keeps its list and timers. -/
theorem exec_enters_fault {c : Instr}
    (h : (∃ place, c = .sendError place ∧ s.line.state.reaches place = true ∧ 7 ≤ s.line.sendErrors) ∨
      (c = .stuckLine ∧ s.line.state ≠ .off ∧ s.line.state ≠ .fault ∧ s.line.state ≠ .silent)) :
    ∃ f : LineController → LineController, exec c s = .next (s.onLine f).enterFault ∧ (f s.line).outgoing = s.line.outgoing ∧
      (f s.line).unacked = s.line.unacked ∧ (f s.line).announceTimer = s.line.announceTimer ∧
      (f s.line).spacingTimer = s.line.spacingTimer := by
  rcases h with ⟨place, rfl, hr, hcount⟩ | ⟨rfl, hoff, hfault, hsilent⟩
  · refine ⟨LineController.failSend place, ?_, LineController.failSend_line place s.line⟩
    change execSendError place s = _
    have height : 8 ≤ s.line.sendErrors + 1 := by omega
    rw [execSendError, if_pos hr, if_pos height]
  · refine ⟨fun l => { l.dominant with track := .lost }, ?_, rfl, rfl, rfl, rfl⟩
    change execStuckLine s = _
    rw [execStuckLine, if_neg hoff, if_neg (not_or.mpr ⟨hfault, hsilent⟩)]

/-- Settles O32: the entry into "FAULT", and with it the one into ISLAND of a joined station. -/
theorem faultPutsTheStationInIsland : Obligations.FaultPutsTheStationInIsland := by
  intro s c h
  obtain ⟨f, hexec, hout, hunacked, hannounce, hspacing⟩ := exec_enters_fault h
  obtain ⟨huntouched, hline, hshare, hisland, hjoined⟩ := s.enterFault_spec f
  refine ⟨_, hexec, huntouched, by rw [hline], by rw [hline], by rw [hline]; exact hout, by rw [hline]; exact hunacked,
    by rw [hline]; exact hannounce, by rw [hline]; exact hspacing, by rw [hshare], by rw [hshare], by rw [hshare],
    by rw [hshare], hisland, fun hj => ?_⟩
  obtain ⟨hticket, hcap⟩ := hjoined hj
  exact ⟨hticket, fun p => ⟨hcap.rings p, hcap.grant p⟩⟩

/-! ## Completed sends (R106, R112 to R116) -/

theorem exec_sendCompleted {i : InFlight} (hs : s.line.sending = true) (hi : s.line.inFlight = some i) (acked : Bool) :
    exec (.sendCompleted acked) s = .next (s.completeSend acked i) := by
  change execSendCompleted acked s = _
  rw [execSendCompleted, hi]
  simp only [if_pos hs]

/-- R106: the list without the frame that has gone, unless R110 took it out before. -/
def InFlight.remaining (i : InFlight) (l : List OutFrame) : List OutFrame :=
  if i.removed then l else l.filter (fun f => decide (f ≠ i.frame))

theorem bne_eq_decide (f g : OutFrame) : (f != g) = decide (f ≠ g) := by
  rw [Bool.eq_iff_iff, bne_iff_ne, decide_eq_true_eq]

theorem LineController.finishSend_eq (i : InFlight) (l : LineController) : l.finishSend i = { l with
    state := .listen, track := .afterFrame, inFlight := none, sendErrors := 0, outgoing := i.remaining l.outgoing,
    recessiveRun := 0, dominantRun := 0 } := by
  simp only [LineController.finishSend, InFlight.remaining, bne_eq_decide]
  rfl

theorem LineController.seriesWaits_iff_report (l : LineController) :
    l.seriesWaits = true ↔ ∃ part, OutFrame.report part ∈ l.outgoing := by
  rw [LineController.seriesWaits, List.any_eq_true]
  constructor
  · rintro ⟨f, hf, hk⟩
    cases f <;> simp [OutFrame.kind] at hk
    exact ⟨_, hf⟩
  · rintro ⟨part, hp⟩
    exact ⟨_, hp, rfl⟩

/-- Settles O34: the list without the frame, and for a REPORT part the end of its series with the last. -/
theorem completedFrameLeavesTheList : Obligations.CompletedFrameLeavesTheList := by
  intro s acked i hs hi hframe remaining
  have hexec := exec_sendCompleted hs hi acked
  have hline : (s.onLine (LineController.finishSend i)).line = { s.line with
      state := .listen, track := .afterFrame, inFlight := none, sendErrors := 0, outgoing := remaining,
      recessiveRun := 0, dominantRun := 0 } := LineController.finishSend_eq i s.line
  have hwaits : (s.onLine (LineController.finishSend i)).line.seriesWaits = true ↔ ∃ part, OutFrame.report part ∈ remaining := by
    rw [LineController.seriesWaits_iff_report, hline]
  cases hf : i.frame with
  | announce => exact absurd hf hframe
  | trip =>
    rw [State.completeSend, hf] at hexec
    exact ⟨_, hexec, rfl, hline, fun _ => rfl, fun _ => rfl, fun _ part hp => OutFrame.noConfusion hp⟩
  | clear =>
    rw [State.completeSend, hf] at hexec
    exact ⟨_, hexec, rfl, hline, fun _ => rfl, fun _ => rfl, fun _ part hp => OutFrame.noConfusion hp⟩
  | report part =>
    rw [State.completeSend, hf] at hexec
    by_cases hw : (s.onLine (LineController.finishSend i)).line.seriesWaits = true
    · have hpart : (s.onLine (LineController.finishSend i)).partCompleted = s.onLine (LineController.finishSend i) := if_pos hw
      exact ⟨_, hexec, by rw [hpart]; rfl, by rw [hpart]; exact hline, fun _ => by rw [hpart]; rfl, fun _ => by rw [hpart]; rfl,
        fun hnone => absurd (hwaits.mp hw) (not_exists.mpr hnone)⟩
    · have hpart : (s.onLine (LineController.finishSend i)).partCompleted =
          (s.onLine (LineController.finishSend i)).onTicket (fun t => { t with series := none }) := if_neg hw
      exact ⟨_, hexec, by rw [hpart]; rfl, by rw [hpart]; exact hline, fun hsome => absurd (hwaits.mpr hsome) hw,
        fun k => k.elim (fun k => OutFrame.noConfusion k) (fun k => OutFrame.noConfusion k), fun _ _ _ => by rw [hpart]; rfl⟩

/-! ## The prompt test (R113) -/

theorem differsBy_iff (step a b : Nat) : differsBy step a b = true ↔ step ≤ a - b ∨ step ≤ b - a := by
  rw [differsBy, decide_eq_true_eq]
  omega

theorem Pool.exists_iff {P : Pool → Prop} : (∃ p, P p) ↔ P .supply ∨ P .ret ∨ P .header := by
  constructor
  · rintro ⟨p, hp⟩
    cases p
    · exact .inl hp
    · exact .inr (.inl hp)
    · exact .inr (.inr hp)
  · rintro (h | h | h)
    · exact ⟨_, h⟩
    · exact ⟨_, h⟩
    · exact ⟨_, h⟩

/-- R113: the phase code or a demand has moved since these were announced. -/
def State.MovedFrom (a : Announced) (s : State) : Prop :=
  a.phaseCode ≠ s.seq.phase.code ∨ ∃ p, s.cfg.demandStep ≤ a.demands.get p - s.demand p ∨
    s.cfg.demandStep ≤ s.demand p - a.demands.get p

theorem State.promptCondition_iff (s : State) :
    s.promptCondition = true ↔ ∃ a, s.line.lastAnnounced = some a ∧ s.MovedFrom a := by
  unfold State.promptCondition State.MovedFrom
  cases s.line.lastAnnounced with
  | none => simp
  | some a =>
    simp only [Pool.exists_iff, Bool.or_eq_true, bne_iff_ne, differsBy_iff, Option.some.injEq, exists_eq_left', or_assoc]
    rfl

/-- R113: with no ANNOUNCE in the list and the spacing timer below its time, a test that finds the condition asks for an
ANNOUNCE. -/
theorem State.promptTest_below (ht : s.line.takesRequests = true) (ho : OutFrame.announce ∉ s.line.outgoing)
    (hs : s.line.spacingOver (spacingTime s.cfg) = false) : s.promptTest =
      if s.promptCondition = true then s.onLine (fun l => { l with promptRequest := true }) else s := by
  unfold State.promptTest State.onLine LineController.prompt
  simp [ht, ho, hs]

theorem State.promptTest_unacked (s : State) : s.promptTest.line.unacked = s.line.unacked := by
  rcases s.promptTest_line with h | h | h <;> rw [h]
  unfold LineController.add
  split <;> rfl

/-! ## A completed ANNOUNCE -/

/-- R135, R150: the share unit at an acknowledged ANNOUNCE. -/
theorem State.reportAcked_spec (carried : Pools Nat) (s : State) : Untouched [.share, .ticket] s (s.reportAcked carried) ∧
    (s.reportAcked carried).share.share = s.share.share ∧
    (s.reportAcked carried).share.faultMarker = s.share.faultMarker ∧
    (s.reportAcked carried).share.starvation = s.share.starvation ∧
    (∀ p, (s.reportAcked carried).share.rings.get p = (s.share.rings.get p).drop 1 ++ [carried.get p]) ∧
    (s.share.island = .island → s.share.faultMarker = false → (s.reportAcked carried).share.island = .joined ∧
      (s.reportAcked carried).ticket.current = noted .rejoin 0 s.ticket ∧
      ∀ p, (s.reportAcked carried).share.grant.get p =
        if min (s.share.grant.get p) (s.share.share.get p) < s.cfg.minGrant.get p then 0
        else min (s.share.grant.get p) (s.share.share.get p)) ∧
    (s.share.island = .joined ∨ s.share.faultMarker = true → (s.reportAcked carried).share.island = s.share.island ∧
      (s.reportAcked carried).share.grant = s.share.grant ∧ (s.reportAcked carried).ticket = s.ticket) := by
  have hpush : Untouched [.share, .ticket] s (s.onShare (fun u => { u with rings := poolsZip pushRing carried u.rings })) :=
    (s.onShare_untouched _).weaken (by decide)
  by_cases h : s.share.island = .island ∧ s.share.faultMarker = false
  · have heq : s.reportAcked carried =
        (s.onShare (fun u => { u with rings := poolsZip pushRing carried u.rings })).exitIsland := if_pos h
    obtain ⟨huntouched, hticket, hshare, hgrant⟩ :=
      (s.onShare (fun u => { u with rings := poolsZip pushRing carried u.rings })).exitIsland_spec
    rw [heq]
    refine ⟨hpush.trans huntouched, by rw [hshare]; rfl, by rw [hshare]; rfl, by rw [hshare]; rfl, fun p => ?_,
      fun _ _ => ⟨by rw [hshare], by rw [hticket]; rfl, hgrant⟩, fun k => ?_⟩
    · rw [hshare]
      exact poolsZip_get _ _ _ p
    · simp [h.1, h.2] at k
  · have heq : s.reportAcked carried = s.onShare (fun u => { u with rings := poolsZip pushRing carried u.rings }) := if_neg h
    rw [heq]
    exact ⟨hpush, rfl, rfl, rfl, fun p => poolsZip_get _ _ _ p, fun hi hm => absurd ⟨hi, hm⟩ h, fun _ => ⟨rfl, rfl, rfl⟩⟩

/-- R106, R112, R113: the part after a completed ANNOUNCE, before the share unit hears of it. -/
def State.afterAnnounce (acked : Bool) (i : InFlight) (s : State) : State :=
  ((s.onLine (fun l => (l.finishSend i).announced i.carried)).promptTest).onLine (LineController.countAck acked)

theorem State.completeSend_announce {i : InFlight} (hf : i.frame = .announce) (acked : Bool) (s : State) :
    s.completeSend acked i = if acked then (s.afterAnnounce acked i).reportAcked i.carried.demands
      else (s.afterAnnounce acked i).reportUnacked (s.afterAnnounce acked i).line.unacked := by
  rw [State.completeSend, hf]
  rfl

theorem State.afterAnnounce_untouched (acked : Bool) (i : InFlight) (s : State) :
    Untouched [.line] s (s.afterAnnounce acked i) :=
  ((s.onLine_untouched _).trans (State.promptTest_untouched _)).trans (State.onLine_untouched _ _)

theorem State.afterAnnounce_unacked (acked : Bool) (i : InFlight) (s : State) :
    (s.afterAnnounce acked i).line.unacked = if acked then 0 else min 255 (s.line.unacked + 1) := by
  unfold State.afterAnnounce
  rw [State.onLine_line, LineController.countAck, State.promptTest_unacked]
  rfl

/-- What a change of the line controller alone leaves of what the share unit reads and writes. -/
theorem Untouched.of_line {s t : State} (h : Untouched [.line] s t) :
    t.share = s.share ∧ t.ticket = s.ticket ∧ t.cfg = s.cfg := by
  refine ⟨h .share (by decide), h .ticket (by decide), ?_⟩
  rw [State.cfg, h .loader (by decide)]
  rfl

/-- R146: an unacknowledged ANNOUNCE enters ISLAND at the island count alone. -/
theorem State.reportUnacked_of (count : Nat) (s : State) (h : ¬ (s.cfg.islandCount ≤ count ∧ s.share.island = .joined ∧
    s.share.faultMarker = false)) : s.reportUnacked count = s := if_neg h

/-- Settles O36: the report of an acknowledged or an unacknowledged ANNOUNCE to the share unit. -/
theorem acknowledgementsMoveTheIslandState : Obligations.AcknowledgementsMoveTheIslandState := by
  intro s acked i hs hi hf
  have hexec := exec_sendCompleted hs hi acked
  rw [State.completeSend_announce hf] at hexec
  obtain ⟨hshare, hticket, hcfg⟩ := (s.afterAnnounce_untouched acked i).of_line
  have hcount := s.afterAnnounce_unacked acked i
  refine ⟨_, hexec, ?_⟩
  cases acked with
  | true =>
    obtain ⟨_, h1, h2, h3, hrings, hisland, hjoined⟩ := (s.afterAnnounce true i).reportAcked_spec i.carried.demands
    rw [hshare] at h1 h2 h3 hisland hjoined
    rw [hticket, hcfg] at hisland
    rw [hticket] at hjoined
    simp only [hshare] at hrings
    exact ⟨h1, h2, h3, fun k => Bool.noConfusion k, fun k => Bool.noConfusion k, fun _ => hrings, fun _ => hisland,
      fun _ => hjoined⟩
  | false =>
    have hif : (s.afterAnnounce false i).reportUnacked (s.afterAnnounce false i).line.unacked =
        if s.cfg.islandCount ≤ min 255 (s.line.unacked + 1) ∧ s.share.island = .joined ∧ s.share.faultMarker = false then
          (s.afterAnnounce false i).enterIsland 1
        else s.afterAnnounce false i := by
      rw [State.reportUnacked, hcount, hcfg, hshare]
      rfl
    rw [if_neg Bool.false_ne_true, hif]
    by_cases h : s.cfg.islandCount ≤ min 255 (s.line.unacked + 1) ∧ s.share.island = .joined ∧ s.share.faultMarker = false
    · obtain ⟨_, hnote, hisland, hcap⟩ := (s.afterAnnounce false i).enterIsland_spec 1
      rw [if_pos h]
      simp only [hshare, hcfg] at hcap
      refine ⟨by rw [hisland, ← hshare], by rw [hisland, ← hshare], by rw [hisland, ← hshare],
        fun _ _ _ _ => ⟨by rw [hisland], by rw [hnote, hticket], hcap⟩, fun _ k => ?_, fun k => Bool.noConfusion k,
        fun k => Bool.noConfusion k, fun k => Bool.noConfusion k⟩
      obtain ⟨hcnt, hj, hm⟩ := h
      rw [hj, hm] at k
      simp at k
      omega
    · rw [if_neg h]
      exact ⟨by rw [hshare], by rw [hshare], by rw [hshare], fun _ h1 h2 h3 => absurd ⟨h3, h1, h2⟩ h,
        fun _ _ => ⟨hshare, hticket⟩, fun k => Bool.noConfusion k, fun k => Bool.noConfusion k, fun k => Bool.noConfusion k⟩

/-- R109: the frame of an ANNOUNCE is not one that R110 takes out in flight. -/
theorem not_removed_of_announce {i : InFlight} (h : OutgoingOrdered s) (hi : s.line.inFlight = some i)
    (hf : i.frame = .announce) : i.removed = false := by
  obtain ⟨_, _, _, _, _, _, _, hremoved⟩ := h
  refine Bool.eq_false_iff.mpr fun hr => ?_
  rcases hremoved i hi hr with k | k <;> rw [hf] at k <;> exact OutFrame.noConfusion k

/-- R112, R113: the line controller after a completed ANNOUNCE. -/
theorem State.afterAnnounce_line {i : InFlight} (hf : i.frame = .announce) (hr : i.removed = false)
    (hperiod : 0 < s.cfg.announcePeriod) (acked : Bool) : (s.afterAnnounce acked i).line = { s.line with
      state := .listen, track := .afterFrame, inFlight := none, sendErrors := 0
      outgoing := s.line.outgoing.filter (fun f => decide (f ≠ .announce)), recessiveRun := 0, dominantRun := 0
      lastAnnounced := some i.carried, announceTimer := some 0, spacingTimer := some 0
      promptRequest := (s.onLine (fun l => (l.finishSend i).announced i.carried)).promptCondition
      unacked := if acked then 0 else min 255 (s.line.unacked + 1) } := by
  have hline : (s.onLine (fun l => (l.finishSend i).announced i.carried)).line = { s.line with
      state := .listen, track := .afterFrame, inFlight := none, sendErrors := 0
      outgoing := s.line.outgoing.filter (fun f => decide (f ≠ .announce)), recessiveRun := 0, dominantRun := 0
      lastAnnounced := some i.carried, announceTimer := some 0, spacingTimer := some 0, promptRequest := false } := by
    rw [State.onLine_line, LineController.finishSend_eq, InFlight.remaining, hr, hf]
    rfl
  have hspacing : ¬ spacingTime s.cfg ≤ 0 := by
    unfold spacingTime
    omega
  rw [State.afterAnnounce, State.promptTest_below]
  · rw [State.onLine_line]
    cases hp : (s.onLine (fun l => (l.finishSend i).announced i.carried)).promptCondition with
    | true =>
      rw [if_pos rfl, State.onLine_line, hline]
      rfl
    | false =>
      rw [if_neg Bool.false_ne_true, hline]
      rfl
  · rw [hline]
    rfl
  · rw [hline]
    simp
  · rw [hline]
    simp [LineController.spacingOver, hspacing]

/-- Settles O35: the line controller after the announcement, with the prompt test's request, and the share unit's report. -/
theorem completedAnnounceIsReported : Obligations.CompletedAnnounceIsReported := by
  intro s acked i hord hs hi hf hperiod
  have hexec := exec_sendCompleted hs hi acked
  rw [State.completeSend_announce hf] at hexec
  have huntouched := (s.afterAnnounce_untouched acked i).weaken (m := [.line, .share, .ticket]) (by decide)
  obtain ⟨hshare, hticket, _⟩ := (s.afterAnnounce_untouched acked i).of_line
  have hline := State.afterAnnounce_line hf (not_removed_of_announce hord hi hf) hperiod acked
  have hprompt : (s.afterAnnounce acked i).line.promptRequest = true ↔ s.MovedFrom i.carried := by
    rw [hline, State.promptCondition_iff]
    simp only [State.onLine_line, LineController.announced, Option.some.injEq, exists_eq_left']
    rfl
  refine ⟨_, hexec, ?_⟩
  cases acked with
  | true =>
    obtain ⟨hreport, _, _, _, hrings, _, hjoined⟩ := (s.afterAnnounce true i).reportAcked_spec i.carried.demands
    have hsame : ((s.afterAnnounce true i).reportAcked i.carried.demands).line = (s.afterAnnounce true i).line :=
      hreport .line (by decide)
    rw [if_pos rfl, hsame]
    refine ⟨huntouched.trans (hreport.weaken (by decide)), by rw [hline], by rw [hline], by rw [hline], by rw [hline],
      by rw [hline], by rw [hline], by rw [hline], by rw [hline], hprompt, fun _ hj => ?_, fun k => Bool.noConfusion k⟩
    obtain ⟨_, hgrant, htickets⟩ := hjoined (.inl (by rw [hshare]; exact hj))
    exact ⟨htickets.trans hticket, hgrant.trans (by rw [hshare]), fun p => by rw [hrings, hshare]⟩
  | false =>
    rw [if_neg Bool.false_ne_true, State.reportUnacked]
    split
    · obtain ⟨hreport, _, hisland, _⟩ := (s.afterAnnounce false i).enterIsland_spec 1
      have hsame : ((s.afterAnnounce false i).enterIsland 1).line = (s.afterAnnounce false i).line := hreport .line (by decide)
      rw [hsame]
      refine ⟨huntouched.trans (hreport.weaken (by decide)), by rw [hline], by rw [hline], by rw [hline], by rw [hline],
        by rw [hline], by rw [hline], by rw [hline], by rw [hline], hprompt, fun k => Bool.noConfusion k, fun _ hj => ?_⟩
      rw [hisland] at hj
      exact IslandState.noConfusion hj
    · exact ⟨huntouched, by rw [hline], by rw [hline], by rw [hline], by rw [hline],
        by rw [hline], by rw [hline], by rw [hline], by rw [hline], hprompt, fun k => Bool.noConfusion k,
        fun _ _ => ⟨hshare, hticket⟩⟩

end Sys2Proof.Machine
end


section
/-!
PROOFS. The ageing of records, metering, and the encodings that peers and observers read (O40, O41, O48, O50).
-/

namespace Sys2Proof.Machine

open Sys2Proof

variable {s : State}

/-! ## The ageing of records (R125 to R128) -/

theorem address_of_findPeer {ps : List Peer} {a : Nat} {r : Peer} (h : findPeer ps a = some r) : r.address = a := by
  have hp := List.find?_some (show ps.find? (fun p => p.address == a) = some r from h)
  simpa using hp

theorem mem_of_findPeer {ps : List Peer} {a : Nat} {r : Peer} (h : findPeer ps a = some r) : r ∈ ps :=
  List.mem_of_find?_eq_some h

/-- R119: of one address a table without repetition holds one record. -/
theorem eq_of_findPeer {ps : List Peer} (hn : (ps.map Peer.address).Nodup) {a : Nat} {r p : Peer}
    (h : findPeer ps a = some r) (hp : p ∈ ps) (ha : p.address = a) : p = r :=
  List.inj_on_of_nodup_map hn hp (mem_of_findPeer h) (ha.trans (address_of_findPeer h).symm)

/-- A change that keeps each record's address changes the record of an address where it stands. -/
theorem findPeer_map (f : Peer → Peer) (hf : ∀ p, (f p).address = p.address) (ps : List Peer) (a : Nat) :
    findPeer (ps.map f) a = (findPeer ps a).map f := by
  unfold findPeer
  rw [List.find?_map]
  congr 2
  funext p
  simp [hf]

/-- A command that changes the record of one address, where a condition holds of it. -/
def ageRecord (a : Nat) (due : Peer → Bool) (f : Peer → Peer) (p : Peer) : Peer :=
  if p.address = a ∧ due p = true then f p else p

theorem ageRecord_address {a : Nat} {due : Peer → Bool} {f : Peer → Peer} (hf : ∀ p, (f p).address = p.address) (p : Peer) :
    (ageRecord a due f p).address = p.address := by
  unfold ageRecord
  split
  · exact hf p
  · rfl

/-- R125, R126: where the record's time has come it changes, and no other does. -/
theorem findPeer_ageRecord {a : Nat} {due : Peer → Bool} {f : Peer → Peer} (hf : ∀ p, (f p).address = p.address) {r : Peer}
    (h : findPeer s.peers a = some r) (hd : due r = true) :
    findPeer (s.peers.map (ageRecord a due f)) a = some (f r) ∧
      ∀ b, b ≠ a → findPeer (s.peers.map (ageRecord a due f)) b = findPeer s.peers b := by
  refine ⟨?_, fun b hb => ?_⟩
  · rw [findPeer_map _ (ageRecord_address hf), h, Option.map_some, ageRecord, if_pos ⟨address_of_findPeer h, hd⟩]
  · rw [findPeer_map _ (ageRecord_address hf)]
    cases hb' : findPeer s.peers b with
    | none => rfl
    | some p => rw [Option.map_some, ageRecord, if_neg fun k => hb ((address_of_findPeer hb').symm.trans k.1)]

/-- R128: where the record's time has not come nothing changes. -/
theorem map_ageRecord_of_not_due {a : Nat} {due : Peer → Bool} {f : Peer → Peer} {r : Peer}
    (hn : (s.peers.map Peer.address).Nodup) (h : findPeer s.peers a = some r) (hd : due r = false) :
    s.peers.map (ageRecord a due f) = s.peers := by
  conv_rhs => rw [← List.map_id s.peers]
  refine List.map_congr_left fun p hp => if_neg fun ⟨ha, hdue⟩ => ?_
  rw [eq_of_findPeer hn h hp ha, hd] at hdue
  exact Bool.noConfusion hdue

/-- R125: the record of an address becomes STALE where its age stands at the threshold. -/
def staleDue (c : Settings) (p : Peer) : Bool := decide (p.liveness = .current ∧ staleThreshold c ≤ p.age)

/-- R126: the record of an address becomes LAPSED where its age stands at the threshold. -/
def lapseDue (c : Settings) (p : Peer) : Bool := decide (p.liveness = .stale ∧ lapseThreshold c ≤ p.age)

theorem exec_staleThresholdReached (a : Address) (s : State) : exec (.staleThresholdReached a) s = .next
    (s.onPeers (List.map (ageRecord a.toNat (staleDue s.cfg) (fun p => { p with liveness := .stale })))) := by
  refine congrArg (fun f => Host.Outcome.next (s.onPeers (List.map f))) (funext fun p => ?_)
  simp only [ageRecord, staleDue, decide_eq_true_eq]

theorem exec_lapseThresholdReached (a : Address) (s : State) : exec (.lapseThresholdReached a) s = .next
    (s.onPeers (List.map (ageRecord a.toNat (lapseDue s.cfg)
      (fun p => { p with liveness := .lapsed, age := lapseThreshold s.cfg, lapsedTime := 0 })))) := by
  refine congrArg (fun f => Host.Outcome.next (s.onPeers (List.map f))) (funext fun p => ?_)
  simp only [ageRecord, lapseDue, decide_eq_true_eq]

theorem State.onPeers_untouched (f : List Peer → List Peer) (s : State) : Untouched [.peers] s (s.onPeers f) := by
  intro b hb
  cases b <;> simp_all [Block.same]

theorem State.onPeers_of_same {f : List Peer → List Peer} (h : f s.peers = s.peers) : s.onPeers f = s := by
  rw [State.onPeers, h]

theorem forgotten_eq (c : Settings) (a : Nat) (p : Peer) : p.forgotten c a =
    decide (p.address = a ∧ p.liveness = .lapsed ∧ 10 * c.forgetTime ≤ p.lapsedTime) := by
  rw [Bool.eq_iff_iff, Peer.forgotten]
  simp [and_assoc]

/-- R127: the forgotten record leaves the table alone. -/
theorem filter_forgotten {a : Nat} {r : Peer} (hn : (s.peers.map Peer.address).Nodup) (h : findPeer s.peers a = some r)
    (hd : r.forgotten s.cfg a = true) : s.peers.filter (fun p => !p.forgotten s.cfg a) = s.peers.erase r := by
  rw [(List.Nodup.of_map _ hn).erase_eq_filter]
  refine List.filter_congr fun p hp => ?_
  by_cases hpr : p = r
  · simp [hpr, hd]
  · have hne : p.address ≠ a := fun ha => hpr (eq_of_findPeer hn h hp ha)
    simp [hpr, forgotten_eq, hne]

theorem findPeer_filter (keep : Peer → Bool) (ps : List Peer) (a : Nat) (h : ∀ p ∈ ps, p.address = a → keep p = true) :
    findPeer (ps.filter keep) a = findPeer ps a := by
  unfold findPeer
  rw [List.find?_filter]
  refine List.find?_congr fun p hp => ?_
  by_cases ha : p.address = a
  · simp [ha, h p hp ha]
  · simp [ha]

/-- R128: where no record is forgotten nothing changes. -/
theorem exec_forgetTimeReached_of_not {a : Address} {r : Peer} (hn : (s.peers.map Peer.address).Nodup)
    (h : findPeer s.peers a.toNat = some r) (hd : ¬ (r.liveness = .lapsed ∧ 10 * s.cfg.forgetTime ≤ r.lapsedTime)) :
    exec (.forgetTimeReached a) s = .next s := by
  refine congrArg Host.Outcome.next (State.onPeers_of_same (List.filter_eq_self.mpr fun p hp => ?_))
  rw [forgotten_eq, Bool.not_eq_true', decide_eq_false_iff_not]
  rintro ⟨ha, hdue⟩
  rw [eq_of_findPeer hn h hp ha] at hdue
  exact hd hdue

/-- Settles O41: each threshold command changes the record of its address where its time has come. -/
theorem recordsAgeAndAreForgotten : Obligations.RecordsAgeAndAreForgotten := by
  intro s a r hn h stale lapse others
  refine ⟨fun hl ht => ?_, fun hl ht => ?_, fun hl ht => ?_, fun ht => ?_, fun ht => ?_, fun ht => ?_, fun hl => ?_,
    fun hl => ?_, fun hl => ?_⟩
  · obtain ⟨hnew, hothers⟩ := findPeer_ageRecord (due := staleDue s.cfg) (f := fun p => { p with liveness := .stale })
      (fun _ => rfl) h (decide_eq_true ⟨hl, ht⟩)
    exact ⟨_, exec_staleThresholdReached a s, State.onPeers_untouched _ s, hnew, hothers⟩
  · obtain ⟨hnew, hothers⟩ := findPeer_ageRecord (due := lapseDue s.cfg)
      (f := fun p => { p with liveness := .lapsed, age := lapseThreshold s.cfg, lapsedTime := 0 })
      (fun _ => rfl) h (decide_eq_true ⟨hl, ht⟩)
    exact ⟨_, exec_lapseThresholdReached a s, State.onPeers_untouched _ s, hnew, hothers⟩
  · have hd : r.forgotten s.cfg a.toNat = true := by
      rw [forgotten_eq]
      exact decide_eq_true ⟨address_of_findPeer h, hl, ht⟩
    have hfilter := filter_forgotten hn h hd
    refine ⟨_, rfl, State.onPeers_untouched _ s, ?_, ?_, fun b hb => ?_⟩
    · refine List.find?_eq_none.mpr fun p hp => ?_
      have hkept := (List.mem_filter.mp hp).2
      intro ha
      rw [eq_of_findPeer hn h (List.mem_filter.mp hp).1 (beq_iff_eq.mp ha), hd] at hkept
      exact Bool.noConfusion hkept
    · have hpos := List.length_pos_of_mem (mem_of_findPeer h)
      change (s.peers.filter (fun p => !p.forgotten s.cfg a.toNat)).length + 1 = _
      rw [hfilter, List.length_erase_of_mem (mem_of_findPeer h)]
      omega
    · refine findPeer_filter _ _ _ fun p _ hpb => ?_
      have hne : p.address ≠ a.toNat := fun ha => hb (hpb.symm.trans ha)
      simp [forgotten_eq, hne]
  · rw [exec_staleThresholdReached, State.onPeers_of_same (map_ageRecord_of_not_due hn h 
      (decide_eq_false fun k => absurd k.2 (Nat.not_le.mpr ht)))]
  · rw [exec_lapseThresholdReached, State.onPeers_of_same (map_ageRecord_of_not_due hn h 
      (decide_eq_false fun k => absurd k.2 (Nat.not_le.mpr ht)))]
  · exact exec_forgetTimeReached_of_not hn h fun k => absurd k.2 (Nat.not_le.mpr ht)
  · rw [exec_staleThresholdReached, State.onPeers_of_same (map_ageRecord_of_not_due hn h (decide_eq_false fun k => hl k.1))]
  · rw [exec_lapseThresholdReached, State.onPeers_of_same (map_ageRecord_of_not_due hn h (decide_eq_false fun k => hl k.1))]
  · exact exec_forgetTimeReached_of_not hn h fun k => hl k.1

/-! ## Metering (R170, R172) -/

theorem meterTest_iff (s : State) : s.meterTest = true ↔ s.ticket.current.isSome = true ∧ 0 < s.input.liquidSample ∧
    s.valve.lvCommand = .closed ∧ s.valve.lv.state = .closed ∧ s.ticket.meterMarker = false := by
  simp [State.meterTest, State.ticketOpen, and_assoc]

theorem State.onTicket_untouched (f : TicketUnit → TicketUnit) (s : State) : Untouched [.ticket] s (s.onTicket f) := by
  intro b hb
  cases b <;> simp_all [Block.same]

/-- R170: the ticket unit with its open ticket metered. -/
def State.metered (s : State) : State := s.onTicket (fun t => { t with current := t.current.map (Ticket.meter s.cfg s.input) })

theorem State.ticketWork_of_meters (h : s.metered.meterTest = true) : s.ticketWork =
    (s.metered.note .meter s.seq.phase.code).onTicket (fun t => { t with meterMarker := true }) := if_pos h

theorem State.ticketWork_of_not (h : ¬ s.metered.meterTest = true) : s.ticketWork = s.metered := if_neg h

/-- Settles O48: metering, and the METER note under its test. -/
theorem sampleMetersTheOpenTicket : Obligations.SampleMetersTheOpenTicket := by
  intro s
  refine ⟨_, rfl, ?_⟩
  have hmetered : Untouched [.ticket] s s.metered := s.onTicket_untouched _
  by_cases h : s.metered.meterTest = true
  · rw [State.ticketWork_of_meters h]
    obtain ⟨hsome, hmeters⟩ := (meterTest_iff _).mp h
    refine ⟨hmetered.trans ((State.note_untouched _ _ _).trans (State.onTicket_untouched _ _)), rfl, rfl, rfl, rfl,
      fun hnone => ?_, fun k hk => ⟨fun hnot => absurd hmeters hnot, fun _ => ⟨rfl, ?_⟩⟩⟩
    · simp [State.metered, hnone] at hsome
    · simp only [State.onTicket_ticket, State.note_ticket, State.metered, hk]
      rfl
  · rw [State.ticketWork_of_not h]
    refine ⟨hmetered, rfl, rfl, rfl, rfl, fun hnone => ?_, fun k hk => ⟨fun _ => ?_, fun hmeters => absurd ?_ h⟩⟩
    · rw [State.metered, State.onTicket_ticket, hnone, Option.map_none, ← hnone]
    · simp only [State.onTicket_ticket, State.metered, hk]
      rfl
    · exact (meterTest_iff _).mpr ⟨by simp [State.metered, hk], hmeters⟩

end Sys2Proof.Machine
end


section
/-!
PROOFS. The encodings that peers and observers read (O40, O50).
-/

namespace Sys2Proof.Machine

open Sys2Proof

variable {s : State}

/-! ## Numbers in bytes -/

/-- What an observer reads from bytes, most significant first. -/
def valueOf (bytes : List Byte) : Nat := bytes.foldl (fun n b => 256 * n + b.toNat) 0

theorem valueOf_byte {n : Nat} (h : n < 256) : valueOf [byteOfNat n] = n := by
  simp [valueOf, byteOfNat]
  omega

theorem valueOf_bytesOfNat16 {n : Nat} (h : n ≤ 65535) : valueOf (bytesOfNat16 n) = n := by
  simp [valueOf, bytesOfNat16]
  omega

theorem valueOf_bytesOfNat32 {n : Nat} (h : n ≤ 4294967295) : valueOf (bytesOfNat32 n) = n := by
  simp [valueOf, bytesOfNat32]
  omega

/-- Two bytes, most significant first, are read as their number. -/
theorem half_toNat {n : Nat} (h : n ≤ 65535) : (BitVec.ofNat 8 (n / 256) ++ BitVec.ofNat 8 n).toNat = n := by
  rw [BitVec.toNat_append, ← Nat.shiftLeft_add_eq_or_of_lt (BitVec.isLt _), Nat.shiftLeft_eq]
  simp only [BitVec.toNat_ofNat]
  omega

/-! ## ANNOUNCE and TRIP as a peer reads them (section 6.2) -/

theorem Phase.code_lt (p : Phase) : p.code < 9 := by
  cases p <;> decide

/-- The flags byte carries its two bits and the count of closed tickets. -/
theorem State.flagsByte_bits (hstore : s.ticket.store.length ≤ 4) : s.flagsByte.getLsbD 7 = s.trip.outstanding ∧
    s.flagsByte.getLsbD 6 = decide (s.share.island = .island) ∧ s.flagsByte.toNat % 8 = s.ticket.store.length := by
  unfold State.flagsByte byteOfNat
  generalize s.ticket.store.length = n at hstore ⊢
  cases s.trip.outstanding <;> cases s.share.island <;> interval_cases n <;> decide

/-- R157: the cause set of a TRIP is read back from its two bytes. -/
theorem SidingSet.of_bytes {d : SidingSet} {hi lo : Byte} (h : d.bytes = [hi, lo]) : sidingSetOfHalf (hi ++ lo) = d := by
  rcases d with ⟨esd, gas, brk, drift⟩
  obtain ⟨rfl, rfl⟩ : 0#8 = hi ∧ _ = lo := by simpa [SidingSet.bytes] using h
  cases esd <;> cases gas <;> cases brk <;> cases drift <;> rfl

theorem OutFrame.kind_lt (f : OutFrame) : f.kind < 8 := by
  cases f <;> simp [OutFrame.kind]

/-- R99: a peer finds the check of a frame the station launches good. -/
theorem checkGood_launch (hown : s.loader.ownAddress ≤ 16) (f : OutFrame) :
    checkGood ⟨BitVec.ofNat 3 f.kind, BitVec.ofNat 5 s.loader.ownAddress, (s.launch f).payload, (s.launch f).check⟩ = true := by
  have hk : (BitVec.ofNat 3 f.kind).toNat = f.kind := by
    rw [BitVec.toNat_ofNat]
    exact Nat.mod_eq_of_lt f.kind_lt
  have ha : (BitVec.ofNat 5 s.loader.ownAddress).toNat = s.loader.ownAddress := by
    rw [BitVec.toNat_ofNat]
    omega
  simp only [checkGood, hk, ha]
  exact beq_self_eq_true _

/-- Settles O40: the ten bytes of an ANNOUNCE, one field after the other. -/
theorem peersReadWhatTheStationSends : Obligations.PeersReadWhatTheStationSends := by
  intro s b hb hdemand hstore hsign heard
  have hbytes : b 0 = byteOfNat s.seq.phase.code ∧ b 1 = s.flagsByte ∧
      b 2 = BitVec.ofNat 8 (s.demand .supply / 256) ∧ b 3 = BitVec.ofNat 8 (s.demand .supply) ∧
      b 4 = BitVec.ofNat 8 (s.demand .ret / 256) ∧ b 5 = BitVec.ofNat 8 (s.demand .ret) ∧
      b 6 = BitVec.ofNat 8 (s.demand .header / 256) ∧ b 7 = BitVec.ofNat 8 (s.demand .header) ∧
      b 8 = BitVec.ofNat 8 (s.loader.signature.getD 0 / 256) ∧ b 9 = BitVec.ofNat 8 (s.loader.signature.getD 0) := by
    simpa [State.announceBytes, bytesOfNat16, List.ofFn_succ, eq_comm] using hb
  obtain ⟨h0, h1, h2, h3, h4, h5, h6, h7, h8, h9⟩ := hbytes
  obtain ⟨hout, hisland, hcount⟩ := State.flagsByte_bits hstore
  have hcode : heard.phaseCode.toNat = s.seq.phase.code := by
    have hlt := s.seq.phase.code_lt
    change (b 0).toNat = _
    rw [h0, byteOfNat, BitVec.toNat_ofNat]
    omega
  refine ⟨fun x hx hp => ?_, hcode, ?_, ?_, ?_, ?_, ?_, fun hi lo h => SidingSet.of_bytes h,
    fun f hown => checkGood_launch hown f⟩
  · rw [hcode, hp]
    clear hp
    revert x
    decide
  · simp only [announceDemands, heard, h2, h3, h4, h5, h6, h7, half_toNat (hdemand _)]
    rfl
  · simpa only [announceOutstanding, heard, h1] using hout
  · simpa only [announceIsland, heard, h1] using hisland
  · simpa only [heard, h1] using hcount
  · simp only [heard, h8, h9, half_toNat hsign]

/-! ## A REPORT series as an observer reads it (section 10.7) -/

/-- R177: a part of the pending series of a ticket. -/
theorem State.reportPayload_eq {series : Series} {k : Ticket} (hs : s.ticket.series = some series) (hp : 4 ≤ series.parts)
    (hk : s.ticket.find series.number = some k) (part : Nat) : s.reportPayload part =
      bytesOfNat16 series.number ++ [byteOfNat part, byteOfNat series.parts] ++ reportData s.det.throttle k part := by
  have hone : ¬ series.parts = 1 := by omega
  simp only [State.reportPayload, hs, State.partData, if_neg hone, hk]

theorem reportData_notes (present : Nat) (k : Ticket) (j : Nat) :
    reportData present k (5 + j) = ((k.notes.drop (2 * j)).take 2).flatMap (noteBytes k.openTime) := by
  have hindex : 2 * (j + 5) - 10 = 2 * j := by omega
  rw [Nat.add_comm]
  simp only [reportData, hindex]

theorem noteBytes_length (openTime : Nat) (n : Note) : (noteBytes openTime n).length = 5 := rfl

/-- Section 10.7: two notes stand in a part, five bytes each. -/
theorem noteField (openTime : Nat) {l : List Note} {i : Nat} {n : Note} (h : l[i]? = some n) :
    ∃ rest, (((l.drop (2 * (i / 2))).take 2).flatMap (noteBytes openTime)).drop (5 * (i % 2)) = noteBytes openTime n ++ rest := by
  obtain ⟨hi, rfl⟩ := List.getElem?_eq_some_iff.mp h
  rcases Nat.mod_two_eq_zero_or_one i with hm | hm
  · have hdrop : 2 * (i / 2) = i := by omega
    refine ⟨((l.drop (i + 1)).take 1).flatMap (noteBytes openTime), ?_⟩
    rw [hm, hdrop, List.drop_eq_getElem_cons hi, List.take_succ_cons, List.flatMap_cons]
    rfl
  · have hlt : 2 * (i / 2) < l.length := by omega
    have hnext : 2 * (i / 2) + 1 = i := by omega
    refine ⟨[], ?_⟩
    rw [hm, List.drop_eq_getElem_cons hlt, List.take_succ_cons, List.flatMap_cons]
    simp only [hnext, List.drop_eq_getElem_cons hi, List.take_succ_cons, List.take_zero, List.flatMap_cons, List.flatMap_nil]
    rfl

/-- A note is read back from its five bytes. -/
theorem valueOf_noteBytes {openTime : Nat} {n : Note} (h : n.value < 4096) :
    valueOf ((noteBytes openTime n).take 2) = 4096 * n.kind.code + n.value ∧
      valueOf (((noteBytes openTime n).drop 2).take 3) = min 16777215 (n.stamp - openTime) := by
  have hcode : n.kind.code ≤ 10 := by cases n.kind <;> decide
  simp only [noteBytes, valueOf, byteOfNat, List.take_succ_cons, List.take_zero, List.drop_succ_cons, List.drop_zero,
    List.foldl_cons, List.foldl_nil, BitVec.toNat_ofNat]
  omega

/-- R12, section 10.7: the twelve positions of the identity in two parts. -/
theorem identityBytes_append {l : List Byte} (h : l.length ≤ 12) :
    (identityBytes l 1 5 ++ identityBytes l 6 7).take l.length = l := by
  refine List.ext_getElem (by simp [identityBytes]; omega) fun i hi hl => ?_
  rw [List.getElem_take]
  by_cases h5 : i < 5
  · rw [List.getElem_append_left (by simp [identityBytes]; omega)]
    simp [identityBytes, List.getElem?_eq_getElem hl]
  · have hpos : 5 + (i - 5) = i := by omega
    rw [List.getElem_append_right (by simp [identityBytes]; omega)]
    simp [identityBytes, hpos, List.getElem?_eq_getElem hl]

/-- Settles O50: each part's bytes, field by field. -/
theorem reportPartsCarryTheTicket : Obligations.ReportPartsCarryTheTicket := by
  intro s series k hs hparts hparts8 hnumber hk hnotes hidentity hdelivered hrecovered hstation hpeak hopen hclose
    hthrottle hfinal hvalues value field
  have hpayload := State.reportPayload_eq hs hparts hk
  have hvalue : value = valueOf := rfl
  have hhead : ∀ part, part ≤ 8 → value (field part 0 2) = series.number ∧ value (field part 2 1) = part ∧
      value (field part 3 1) = series.parts := by
    intro part hpart
    simp only [field, hpayload]
    exact ⟨valueOf_bytesOfNat16 hnumber, valueOf_byte (n := part) (by omega), valueOf_byte (n := series.parts) (by omega)⟩
  have hbytes : ∀ part first n, field part (4 + first) n = ((reportData s.det.throttle k part).drop first).take n := by
    intro part first n
    simp only [field, hpayload]
    rw [← List.drop_drop]
    rfl
  have hstatus : field 1 4 1 = [byteOfNat (if k.endReason.isSome then 2 else 1)] := hbytes 1 0 1
  have hstationByte : field 1 5 1 = [byteOfNat k.station] := hbytes 1 1 1
  have hreason : field 1 6 1 = [byteOfNat ((k.endReason.map EndReason.code).getD 0)] := hbytes 1 2 1
  have hlevel : field 1 7 1 = [byteOfNat (k.finalThrottle.getD s.det.throttle)] := hbytes 1 3 1
  have hflags : value (field 1 8 1) = (if k.overflow then 128 else 0) + k.notes.length := by
    have hbyte : field 1 8 1 = [byteOfNat ((if k.overflow then 128 else 0) + k.notes.length)] := hbytes 1 4 1
    rw [hbyte]
    exact valueOf_byte (by split <;> omega)
  have hclosed : value (field 2 4 4) = k.closeTime.getD 0 := (congrArg valueOf (hbytes 2 0 4)).trans (valueOf_bytesOfNat32 hclose)
  have hidentities : field 3 10 5 ++ field 4 4 7 = identityBytes k.identity 1 5 ++ identityBytes k.identity 6 7 :=
    congrArg₂ (· ++ ·) (hbytes 3 6 5) (hbytes 4 0 7)
  refine ⟨hhead, by rw [hpayload]; rfl, by rw [hpayload]; rfl, by rw [hpayload]; rfl, by rw [hpayload]; rfl, ?_, ?_, ?_,
    fun hnone => ?_, fun level hsome => ?_, ?_, ?_, fun hnone => ?_, fun n hsome => ?_, ?_, ?_, ?_, ?_, ?_, ?_,
    fun i n hi => ⟨?_, ?_⟩⟩
  · rw [hstatus]
    exact valueOf_byte (by split <;> omega)
  · rw [hstationByte]
    exact valueOf_byte (by omega)
  · rw [hreason]
    rcases k.endReason with _ | r
    · rfl
    · cases r <;> rfl
  · rw [hlevel, hnone]
    exact valueOf_byte (n := s.det.throttle) (by omega)
  · rw [hsome] at hfinal
    rw [hlevel, hsome]
    exact valueOf_byte (n := level) (lt_of_le_of_lt hfinal (by omega))
  · exact (congrArg valueOf (hbytes 1 5 4)).trans (valueOf_bytesOfNat32 hopen)
  · exact (congrArg valueOf (hbytes 1 9 2)).trans (valueOf_bytesOfNat16 hpeak)
  · rw [hclosed, hnone]
    rfl
  · rw [hclosed, hsome]
    rfl
  · rw [hflags]
    split <;> omega
  · rw [hflags]
    cases k.overflow <;> simp
    omega
  · have hkg : value (field 2 8 4) = k.delivered / 1000 :=
      (congrArg valueOf (hbytes 2 4 4)).trans (valueOf_bytesOfNat32 (by omega))
    have hg : value (field 2 12 2) = k.delivered % 1000 :=
      (congrArg valueOf (hbytes 2 8 2)).trans (valueOf_bytesOfNat16 (by omega))
    omega
  · have hkg : value (field 3 4 4) = k.recovered / 1000 :=
      (congrArg valueOf (hbytes 3 0 4)).trans (valueOf_bytesOfNat32 (by omega))
    have hg : value (field 3 8 2) = k.recovered % 1000 :=
      (congrArg valueOf (hbytes 3 4 2)).trans (valueOf_bytesOfNat16 (by omega))
    omega
  · exact (congrArg valueOf (hbytes 2 10 1)).trans (valueOf_byte (n := k.identity.length) (by omega))
  · rw [hidentities, identityBytes_append hidentity]
  · obtain ⟨rest, hrest⟩ := noteField k.openTime hi
    have hfirst : field (5 + i / 2) (4 + 5 * (i % 2)) 2 = (noteBytes k.openTime n).take 2 := by
      rw [hbytes, reportData_notes, hrest]
      rfl
    rw [hfirst]
    exact (valueOf_noteBytes (hvalues n (List.mem_of_getElem? hi))).1
  · obtain ⟨rest, hrest⟩ := noteField k.openTime hi
    have hlast : field (5 + i / 2) (6 + 5 * (i % 2)) 3 = ((noteBytes k.openTime n).drop 2).take 3 := by
      have hindex : 6 + 5 * (i % 2) = 4 + (5 * (i % 2) + 2) := by omega
      rw [hindex, hbytes, reportData_notes, ← List.drop_drop, hrest]
      rfl
    rw [hlast]
    exact (valueOf_noteBytes (hvalues n (List.mem_of_getElem? hi))).2

end Sys2Proof.Machine
end


section
/-!
PROOFS. The entry into "TRIPPED" in full, for the commands that make it (O29, O39, O45, O46).
-/

namespace Sys2Proof.Machine

open Sys2Proof

variable {s t : State}

/-! ## The entry into "TRIPPED" (R37, R38, R162) -/

/-- What an entry into "TRIPPED" for a cause of an originator leaves. -/
structure TripEntered (c : Cause) (originator : Nat) (s t : State) : Prop where
  seq : t.seq = { s.seq with
    phase := .tripped, held := t.seq.held, stopped := t.seq.stopped, reason := none, drainTimer := none, residual := 0
    recoveryTimer := none, bleedTimer := none, tempCode := some (causeCode c), tempTimer := some 0 }
  valve : t.valve = s.valve.obey ⟨.closed, .closed, 0, 0⟩
  share : t.share = s.share.change s.seq.phase .tripped
  line : t.line = s.line ∨ t.line = s.line.add .announce ∨ t.line = { s.line with promptRequest := true }
  refuses : s.line.takesRequests = false → t.line = s.line
  trip : t.trip = s.trip
  series : t.ticket.series = s.ticket.series
  stands : s.armsUncoupled = false ∨ s.ticketOpen = false →
    t.ticket.current = noted .trip (originator * 16 + causeNumber c) s.ticket ∧ t.ticket.store = s.ticket.store ∧
      t.seq.held = heldAtTrip s.seq.phase s.seq.held
  closes : s.armsUncoupled = true → ∀ k, noted .trip (originator * 16 + causeNumber c) s.ticket = some k →
    t.ticket.current = none ∧ t.ticket.store = s.ticket.store ++ [{ k with
      closeTime := some s.ticket.uptime, finalThrottle := some s.det.throttle, endReason := some .tripped }] ∧
      t.seq.held = none ∧ t.seq.stopped = false ∧ t.check.baseline = none

/-- R37: the part as the entry has it before it looks at the arms. -/
def State.beforeUncoupled (c : Cause) (originator : Nat) (s : State) : State :=
  (((s.abandonCheck.onSeq (fun q => { q with
      held := heldAtTrip q.phase q.held
      reason := none
      drainTimer := none
      recoveryTimer := none
      bleedTimer := none
      residual := 0 })).enterPhase .tripped).setTempCode (causeCode c)).note .trip (originator * 16 + causeNumber c)

theorem State.enterTripped_eq (c : Cause) (o : Nat) (s : State) :
    s.enterTripped c o = (s.beforeUncoupled c o).closeUncoupled := rfl

theorem State.beforeUncoupled_seq (c : Cause) (o : Nat) (s : State) : (s.beforeUncoupled c o).seq = { s.seq with
    phase := .tripped, held := heldAtTrip s.seq.phase s.seq.held, reason := none, drainTimer := none, residual := 0
    recoveryTimer := none, bleedTimer := none, tempCode := some (causeCode c), tempTimer := some 0 } := by
  simp [State.beforeUncoupled]

theorem State.beforeUncoupled_ticket (c : Cause) (o : Nat) (s : State) : (s.beforeUncoupled c o).ticket = { s.ticket with
    current := noted .trip (o * 16 + causeNumber c) s.ticket, meterMarker := false } := by
  simp [State.beforeUncoupled, noted]

theorem State.abandonCheck_throttle (s : State) : s.abandonCheck.det.throttle = s.det.throttle := by
  unfold State.abandonCheck
  split <;> rfl

theorem State.beforeUncoupled_throttle (c : Cause) (o : Nat) (s : State) :
    (s.beforeUncoupled c o).det.throttle = s.det.throttle := by
  simp [State.beforeUncoupled, State.abandonCheck_throttle]

theorem State.beforeUncoupled_armsUncoupled (c : Cause) (o : Nat) (s : State) :
    (s.beforeUncoupled c o).armsUncoupled = s.armsUncoupled := by
  simp [State.beforeUncoupled, State.armsUncoupled]

theorem State.beforeUncoupled_ticketOpen (c : Cause) (o : Nat) (s : State) :
    (s.beforeUncoupled c o).ticketOpen = s.ticketOpen := by
  rw [State.ticketOpen, State.beforeUncoupled_ticket, noted, Option.isSome_map, State.ticketOpen]

/-- R81, R93: a phase change into one of these phases has the valves obey closed commands. -/
theorem State.enterPhase_valve_of_shut {p : Phase} (hp : p.shut = true) (s : State) :
    (s.enterPhase p).valve = s.valve.obey ⟨.closed, .closed, 0, 0⟩ := by
  obtain ⟨sv, rv, hv, _, _, hsv, hrv⟩ := s.enterPhase_valve p
  obtain rfl := hsv (by rintro rfl; exact Bool.noConfusion hp)
  obtain rfl := hrv (by rintro rfl; exact Bool.noConfusion hp)
  rw [hv]
  cases p <;> first | rfl | exact Bool.noConfusion hp

theorem State.beforeUncoupled_valve (c : Cause) (o : Nat) (s : State) :
    (s.beforeUncoupled c o).valve = s.valve.obey ⟨.closed, .closed, 0, 0⟩ := by
  rw [State.beforeUncoupled, State.note_valve, State.setTempCode_valve, State.enterPhase_valve_of_shut rfl,
    State.onSeq_valve, State.abandonCheck_valve]

theorem State.beforeUncoupled_line (c : Cause) (o : Nat) (s : State) :
    (s.beforeUncoupled c o).line = s.line ∨ (s.beforeUncoupled c o).line = s.line.add .announce ∨
      (s.beforeUncoupled c o).line = { s.line with promptRequest := true } := by
  simpa [State.beforeUncoupled] using State.enterPhase_line (s.abandonCheck.onSeq (fun q => { q with
      held := heldAtTrip q.phase q.held, reason := none, drainTimer := none, recoveryTimer := none,
      bleedTimer := none, residual := 0 })) .tripped

theorem State.beforeUncoupled_line_of_refuses (c : Cause) (o : Nat) (h : s.line.takesRequests = false) :
    (s.beforeUncoupled c o).line = s.line := by
  rw [State.beforeUncoupled, State.note_line, State.setTempCode_line, State.enterPhase_line_of_refuses]
  · simp
  · simpa using h

/-- R38: the ticket closes in "TRIPPED". -/
def State.closedTripped (s : State) : State :=
  ((s.closeTicket .tripped).dropBaseline).onSeq (fun q => { q with held := none, stopped := false })

theorem State.closedTripped_seq (s : State) : s.closedTripped.seq = { s.seq with held := none, stopped := false } := rfl

theorem State.closedTripped_ticket {k : Ticket} (h : s.ticket.current = some k) : s.closedTripped.ticket = { s.ticket with
    current := none
    store := s.ticket.store ++
      [{ k with closeTime := some s.ticket.uptime, finalThrottle := some s.det.throttle, endReason := some .tripped }] } :=
  s.closeTicket_some .tripped k h

theorem State.closedTripped_series (s : State) : s.closedTripped.ticket.series = s.ticket.series :=
  TicketUnit.closeTicket_series _ _ _

theorem State.closedTripped_untouched (s : State) : Untouched [.seq, .check, .det, .ticket] s s.closedTripped := by
  intro b hb
  cases b <;> simp_all [Block.same, State.closedTripped]

/-- R37, R38: the entry in full. -/
theorem State.enterTripped_entered (c : Cause) (o : Nat) (s : State) : TripEntered c o s (s.enterTripped c o) := by
  have hseq := s.beforeUncoupled_seq c o
  have hticket := s.beforeUncoupled_ticket c o
  have hsame := (s.beforeUncoupled c o).closeUncoupled_untouched
  have hshare : (s.beforeUncoupled c o).share = s.share.change s.seq.phase .tripped := by simp [State.beforeUncoupled]
  have htrip : (s.beforeUncoupled c o).trip = s.trip := by simp [State.beforeUncoupled]
  have hline : (s.enterTripped c o).line = (s.beforeUncoupled c o).line := hsame .line (by decide)
  have hopen := s.beforeUncoupled_ticketOpen c o
  have hvalve := s.beforeUncoupled_valve c o
  have hthrottle := s.beforeUncoupled_throttle c o
  rcases (s.beforeUncoupled c o).closeUncoupled_cases with ⟨heq, hnot⟩ | ⟨heq, _, ho, ha⟩
  · rw [← State.enterTripped_eq] at heq
    exact {
      seq := by rw [heq, hseq]
      valve := by rw [heq, hvalve]
      share := by rw [heq, hshare]
      line := by rw [hline]; exact s.beforeUncoupled_line c o
      refuses := fun h => by rw [hline]; exact State.beforeUncoupled_line_of_refuses c o h
      trip := by rw [heq, htrip]
      series := by rw [heq, hticket]
      stands := fun _ => by rw [heq, hticket, hseq]; exact ⟨rfl, rfl, rfl⟩
      closes := fun ha k hk => by
        refine absurd ⟨by rw [hseq], ?_, ?_⟩ hnot
        · rw [State.ticketOpen, hticket, hk]
          rfl
        · rw [State.beforeUncoupled_armsUncoupled, ha] }
  · rw [← State.enterTripped_eq, ← State.closedTripped] at heq
    rw [State.beforeUncoupled_armsUncoupled] at ha
    have hclosed := (s.beforeUncoupled c o).closedTripped_untouched
    exact {
      seq := by rw [heq, State.closedTripped_seq, hseq]
      valve := by rw [heq, hclosed .valve (by decide), hvalve]
      share := by rw [heq, hclosed .share (by decide), hshare]
      line := by rw [hline]; exact s.beforeUncoupled_line c o
      refuses := fun h => by rw [hline]; exact State.beforeUncoupled_line_of_refuses c o h
      trip := by rw [heq, hclosed .trip (by decide), htrip]
      series := by rw [heq, State.closedTripped_series, hticket]
      stands := fun h => by
        rcases h with h | h
        · exact Bool.noConfusion (h.symm.trans ha)
        · exact Bool.noConfusion (h.symm.trans (hopen.symm.trans ho))
      closes := fun _ k hk => by
        have hcurrent : (s.beforeUncoupled c o).ticket.current = some k := by rw [hticket, hk]
        rw [heq, State.closedTripped_ticket hcurrent, hticket, hthrottle]
        exact ⟨rfl, rfl, rfl, rfl, rfl⟩ }

theorem State.tripEntry_entered (c : Cause) (o : Nat) (hoff : s.seq.phase ≠ .offline) (ht : s.seq.phase ≠ .tripped) :
    TripEntered c o s (s.tripEntry c o) := by
  rw [State.tripEntry, if_neg (not_or.mpr ⟨hoff, ht⟩)]
  exact s.enterTripped_entered c o

theorem State.tripEntry_of_tripped (c : Cause) (o : Nat) (h : s.seq.phase = .offline ∨ s.seq.phase = .tripped) :
    s.tripEntry c o = s := if_pos h

theorem ValveDriver.shut_obey (v : ValveDriver) : (v.obey ⟨.closed, .closed, 0, 0⟩).Shut :=
  ⟨v.obey_lvCommand _, rfl, rfl, rfl, Nat.min_zero _, Nat.min_zero _⟩

theorem TripEntered.drives {c : Cause} {o : Nat} (h : TripEntered c o s t) : t.drives = ⟨false, 0, 0, false⟩ :=
  State.drives_of_shut (h.valve ▸ s.valve.shut_obey)

theorem TripEntered.phase {c : Cause} {o : Nat} (h : TripEntered c o s t) : t.seq.phase = .tripped := by
  rw [h.seq]

theorem TripEntered.tempCode {c : Cause} {o : Nat} (h : TripEntered c o s t) : t.seq.tempCode = some (causeCode c) := by
  rw [h.seq]

/-- R113: the line controller after the entry, but for an ANNOUNCE that is queued or asked for. -/
theorem TripEntered.line_same {c : Cause} {o : Nat} (h : TripEntered c o s t) : t.line.state = s.line.state ∧
    t.line.inFlight = s.line.inFlight ∧ t.line.track = s.line.track ∧
    ∀ f, f ≠ OutFrame.announce → (f ∈ t.line.outgoing ↔ f ∈ s.line.outgoing) := by
  rcases h.line with h | h | h <;> rw [h]
  · exact ⟨rfl, rfl, rfl, fun _ _ => Iff.rfl⟩
  · refine ⟨LineController.add_state _ _, LineController.add_inFlight _ _, ?_, fun f hf => ?_⟩
    · unfold LineController.add
      split <;> rfl
    · rw [LineController.mem_add]
      exact or_iff_left hf
  · exact ⟨rfl, rfl, rfl, fun _ _ => Iff.rfl⟩

/-! ## A new cause latched -/

/-- R154: a report of a new cause, before the entry into "TRIPPED". -/
def State.latched (c : Cause) (s : State) : State :=
  (s.onTrip (TripUnit.latch s.loader.ownAddress c)).onLine (fun l => if isSiding c then l.queueTrip else l)

theorem State.latch_new {c : Cause} (hoff : s.seq.phase ≠ .offline) (hc : s.trip.latched.contains c = false) :
    s.latch c = (s.latched c).tripEntry c s.loader.ownAddress := by
  rw [State.latch, if_neg (not_or.mpr ⟨hoff, by simpa using hc⟩)]
  rfl

theorem State.latch_old {c : Cause} (hc : s.trip.latched.contains c = true) : s.latch c = s := by
  rw [State.latch, if_pos (.inr hc)]

/-- R156: a local cause leaves the trip list and the line controller. -/
theorem State.latched_of_local {c : Cause} (hc : isSiding c = false) (s : State) :
    s.latched c = s.onTrip (fun u => { u with latched := latchInto c u.latched }) := by
  unfold State.latched TripUnit.latch
  simp [hc, State.onTrip, State.onLine]

end Sys2Proof.Machine
end


section
/-!
PROOFS. Travel timers, frames that reach no block, conflicts (O29, O38, O39).
-/

namespace Sys2Proof.Machine

open Sys2Proof

variable {s t : State}

/-! ## A local cause (R154) -/

/-- R154: a new local cause joins the latched causes and leaves the list. -/
theorem State.latch_local_trip {c : Cause} (hlocal : isSiding c = false) (hoff : s.seq.phase ≠ .offline)
    (hnew : s.trip.latched.contains c = false) :
    (s.latch c).trip = { s.trip with latched := latchInto c s.trip.latched } := by
  rw [State.latch_trip, if_neg (not_or.mpr ⟨hoff, by simpa using hnew⟩), TripUnit.latch]
  simp [hlocal]

/-- R37, R154: inside "TRIPPED" a new local cause changes the latched causes alone. -/
theorem State.latch_local_of_tripped {c : Cause} (hlocal : isSiding c = false) (ht : s.seq.phase = .tripped)
    (hnew : s.trip.latched.contains c = false) :
    s.latch c = s.onTrip (fun u => { u with latched := latchInto c u.latched }) := by
  rw [State.latch_new (by simp [ht]) hnew, State.latched_of_local hlocal, State.tripEntry_of_tripped]
  exact .inr ht

/-- R37, R154: outside "TRIPPED" it makes the entry. -/
theorem State.latch_local_entered {c : Cause} (hlocal : isSiding c = false) (hoff : s.seq.phase ≠ .offline)
    (ht : s.seq.phase ≠ .tripped) (hnew : s.trip.latched.contains c = false) :
    TripEntered c s.loader.ownAddress (s.onTrip (fun u => { u with latched := latchInto c u.latched })) (s.latch c) := by
  rw [State.latch_new hoff hnew, State.latched_of_local hlocal]
  exact State.tripEntry_entered _ _ hoff ht

theorem State.latch_phase {c : Cause} (hoff : s.seq.phase ≠ .offline) (hnew : s.trip.latched.contains c = false) :
    (s.latch c).seq.phase = .tripped := by
  rw [State.latch_new hoff hnew, State.tripEntry_phase]
  exact if_neg hoff

/-! ## Travel timers (R90) -/

theorem ValveDriver.channel_setChannel (w : ValveDriver) (c : Channel) (v : Valve) : (w.setChannel c v).channel v = c := by
  cases v <;> rfl

theorem ValveDriver.setChannel_keeps (w : ValveDriver) (c : Channel) (v : Valve) :
    (w.setChannel c v).lvCommand = w.lvCommand ∧ (w.setChannel c v).bvCommand = w.bvCommand ∧
      (w.setChannel c v).svOpening = w.svOpening ∧ (w.setChannel c v).rvOpening = w.rvOpening := by
  cases v <;> exact ⟨rfl, rfl, rfl, rfl⟩

/-- R89: closing a valve that stands closed leaves its channel. -/
theorem ValveDriver.channel_obey_closed {w : ValveDriver} {v : Valve} (hlv : w.lvCommand = .closed ∨ v ≠ .lv)
    (hsv : v = .sv → w.svOpening = 0) (hrv : v = .rv → w.rvOpening = 0) :
    (w.obey ⟨.closed, .closed, 0, 0⟩).channel v = w.channel v := by
  cases v with
  | lv =>
    have hclosed : w.lvCommand = .closed := hlv.resolve_right fun h => h rfl
    simp [ValveDriver.channel, ValveDriver.commandLv, hclosed]
  | sv => simp [ValveDriver.channel, moveChannel, hsv rfl]
  | rv => simp [ValveDriver.channel, moveChannel, hrv rfl]

theorem exec_travelTimerExpiry {v : Valve} {n : Nat} {state : Supervision} (hchannel : s.valve.channel v = ⟨state, some n⟩)
    (hn : travelTime s.cfg v ≤ n) : exec (.travelTimerExpiry v) s = .next (s.travelExpires v) := by
  change execTravelTimerExpiry v s = _
  rw [execTravelTimerExpiry, if_pos ((reached_iff _ _).mpr ⟨n, by rw [hchannel], hn⟩)]

/-- R90: a valve that is overdue. -/
def State.overdue (state : Supervision) (v : Valve) (s : State) : State :=
  s.onValve (fun w => w.setChannel ⟨state, none⟩ v)

theorem State.travelExpires_closing {v : Valve} {timer : Timer} (h : s.valve.channel v = ⟨.closing, timer⟩) :
    s.travelExpires v = (s.overdue .closeOverdue v).latch .valve := by
  rw [State.travelExpires, h]
  rfl

theorem State.travelExpires_opening {v : Valve} {timer : Timer} (h : s.valve.channel v = ⟨.opening, timer⟩) :
    s.travelExpires v = (s.overdue .openOverdue v).latch .valve := by
  rw [State.travelExpires, h]
  rfl

/-- Settles O29: VALVE is a local cause, and its entry into "TRIPPED" shuts the valves. -/
theorem travelTimerLatchesValve : Obligations.TravelTimerLatchesValve := by
  intro s n hoff
  refine ⟨fun v hchannel hn hold => ?_, fun v hchannel hn hnew hlv hsv hrv => ?_, fun hchannel hn hlv hnew ht => ?_⟩
  · refine ⟨_, exec_travelTimerExpiry hchannel hn, ?_⟩
    rw [State.travelExpires_closing hchannel, State.latch_old (s := s.overdue .closeOverdue v) (c := .valve) hold]
    obtain ⟨h1, h2, h3, h4⟩ := s.valve.setChannel_keeps ⟨.closeOverdue, none⟩ v
    refine ⟨?_, s.valve.channel_setChannel _ v, ?_⟩
    · intro b hb
      cases b <;> simp_all [Block.same, State.overdue]
    · simp only [State.drives, State.overdue, State.onValve_valve, h1, h2, h3, h4]
  · refine ⟨_, exec_travelTimerExpiry hchannel hn, ?_⟩
    rw [State.travelExpires_closing hchannel]
    obtain ⟨h1, h2, h3, h4⟩ := s.valve.setChannel_keeps ⟨.closeOverdue, none⟩ v
    have hset := s.valve.channel_setChannel ⟨.closeOverdue, none⟩ v
    have htrip := State.latch_local_trip (s := s.overdue .closeOverdue v) (c := .valve) rfl hoff hnew
    refine ⟨State.latch_phase hoff hnew, ?_, by rw [htrip]; rfl, by rw [htrip]; rfl, ?_, fun ht => ?_,
      by simp [State.overdue], by simp [State.overdue], by simp [State.overdue]⟩
    · rw [htrip]
      exact (mem_latchInto _ _ _).mpr ⟨by decide, .inl rfl⟩
    · by_cases ht : s.seq.phase = .tripped
      · rw [State.latch_local_of_tripped (s := s.overdue .closeOverdue v) rfl ht hnew]
        exact hset
      · have hentered := State.latch_local_entered (s := s.overdue .closeOverdue v)
          (c := .valve) rfl hoff ht hnew
        rw [hentered.valve]
        exact (ValveDriver.channel_obey_closed (by rwa [← h1] at hlv) (fun k => h3.trans (hsv k)) (fun k => h4.trans (hrv k))).trans hset
    · have hentered := State.latch_local_entered (s := s.overdue .closeOverdue v)
        (c := .valve) rfl hoff ht hnew
      exact ⟨hentered.drives, hentered.tempCode⟩
  · refine ⟨_, exec_travelTimerExpiry hchannel hn, ?_⟩
    rw [State.travelExpires_opening (v := .lv) hchannel]
    have htrip := State.latch_local_trip (s := s.overdue .openOverdue .lv) (c := .valve) rfl hoff hnew
    have hentered := State.latch_local_entered (s := s.overdue .openOverdue .lv)
      (c := .valve) rfl hoff ht hnew
    refine ⟨hentered.phase, ?_, by rw [htrip]; rfl, ?_, hentered.drives, hentered.tempCode, by simp [State.overdue], by simp [State.overdue], by simp [State.overdue]⟩
    · rw [htrip]
      exact (mem_latchInto _ _ _).mpr ⟨by decide, .inl rfl⟩
    · rw [hentered.valve]
      simp [State.overdue, ValveDriver.setChannel, ValveDriver.commandLv, hlv]

/-! ## Frames that reach no block (R99 to R101) -/

theorem checkGood_iff (f : Frame) : checkGood f = true ↔ f.check = frameCheck f.kind.toNat f.source.toNat f.payload :=
  beq_iff_eq

theorem acknowledges_of_receives (h : s.line.receives = true) :
    s.line.acknowledges = decide (s.line.state ≠ .fault ∧ s.line.track ≠ .spoilt) := by
  rw [Bool.eq_iff_iff, LineController.acknowledges]
  simp [h]

theorem not_receives_of_spoilt_hears (h : s.line.track = .spoilt) : ¬ Hears s := fun k => k.2 h

/-- R99, R100: with the check bad a received frame ends unacknowledged. -/
theorem State.receive_of_bad_check {f : Frame} {hand : State → State} (hr : s.line.receives = true)
    (hb : checkGood f = false) : s.receive f hand = { s with line := frameOver false s.line } := by
  rw [State.receive, State.endFrame, if_pos hr, hb, if_neg Bool.false_ne_true, State.frameEnded_eq]

/-- R105: a spoilt frame with a good check ends unacknowledged too, its ack slot being past. -/
theorem State.receive_of_spoilt {f : Frame} {hand : State → State} (hr : s.line.receives = true)
    (hs : s.line.track = .spoilt) : s.receive f hand = { s with line := frameOver false s.line } := by
  cases hg : checkGood f with
  | false => exact State.receive_of_bad_check hr hg
  | true =>
    have hack : s.line.acknowledges = false := by
      rw [acknowledges_of_receives hr]
      simp [hs]
    rw [State.receive, State.endFrame, if_pos hr, if_pos hg, if_neg (by simp [hs]), hack, State.frameEnded_eq]

/-- R101: a good frame of another device that is discarded is acknowledged and ends. -/
theorem State.receive_of_discarded {f : Frame} {hand : State → State} (hr : s.line.receives = true)
    (hg : checkGood f = true) (ho : f.source.toNat ≠ s.loader.ownAddress)
    (hd : validSource f.source.toNat = false ∨ lengthOfKind f.kind.toNat f.payload.length = false) :
    s.receive f hand =
      { s with line := frameOver (decide (s.line.state ≠ .fault ∧ s.line.track ≠ .spoilt)) s.line } := by
  by_cases hs : s.line.track = .spoilt
  · rw [State.receive_of_spoilt hr hs]
    simp [hs]
  · have hboth : ¬ (validSource f.source.toNat && lengthOfKind f.kind.toNat f.payload.length) = true := by
      rcases hd with h | h <;> simp [h]
    have hother : f.source.toNat ≠ (s.frameEnded s.line.acknowledges).loader.ownAddress := ho
    rw [State.receive, State.endFrame, if_pos hr, if_pos hg, if_pos ⟨rfl, hs⟩, ← acknowledges_of_receives hr,
      State.takeGood, if_neg hother, if_neg hboth, State.frameEnded_eq]

/-- R98, R107: of a frame it does not follow the station reads the bits where it listens. -/
theorem State.endFrame_unfollowed {good ends : Bool} {act : State → State} (hr : s.line.receives = false) :
    s.endFrame good ends act =
      if s.line.listens = true then { s with line := { s.line with recessiveRun := 0, dominantRun := 0 } } else s := by
  rw [State.endFrame, if_neg (by simp [hr]), State.frameUnfollowed_eq]

theorem lengthOfKind_of_high {kind length : Nat} (h : 6 ≤ kind) : lengthOfKind kind length = false := by
  unfold lengthOfKind
  split <;> first | omega | rfl

/-- The frame commands, each with the frame it carries. -/
def frameCommands (kind : BitVec 3) (source : Address) (bytes : List Byte) (causeSet number check : Half)
    (payload : AnnouncePayload) (target : Byte) : List (Instr × Frame) :=
  [(.tripFrame source ⟨causeSet, check⟩, ⟨0, source, halfBytes causeSet, check⟩),
    (.clearFrame ⟨source, check⟩, ⟨1, source, [], check⟩),
    (.announceFrame source ⟨payload, check⟩, ⟨2, source, announcePayloadBytes payload, check⟩),
    (.inquiry source target ⟨number, check⟩, ⟨3, source, target :: halfBytes number, check⟩),
    (.reportFrame source ⟨bytes, check⟩, ⟨4, source, bytes, check⟩),
    (.collect source target ⟨number, check⟩, ⟨5, source, target :: halfBytes number, check⟩),
    (.frameDiscarded kind source ⟨bytes, check⟩, ⟨kind, source, bytes, check⟩)]

/-- R99: every frame command receives its frame, of the source it bears. -/
theorem exec_frameCommand {kind : BitVec 3} {source : Address} {bytes : List Byte} {causeSet number check : Half}
    {payload : AnnouncePayload} {target : Byte} {x : Instr × Frame}
    (hx : x ∈ frameCommands kind source bytes causeSet number check payload target) :
    x.2.source = source ∧ ∃ hand, exec x.1 s = .next (s.receive x.2 hand) := by
  simp only [frameCommands, List.mem_cons, List.not_mem_nil, or_false] at hx
  rcases hx with rfl | rfl | rfl | rfl | rfl | rfl | rfl <;> exact ⟨rfl, _, rfl⟩

/-- Settles O38: each way a frame ends without a block that hears of it. -/
theorem spoiltFramesReachNoBlock : Obligations.SpoiltFramesReachNoBlock := by
  intro s kind source bytes causeSet number check payload target ended acks frames good
  have hframes : frames = frameCommands kind source bytes causeSet number check payload target := rfl
  have hunfollowed : s.line.receives = false → ∀ c ∈ [Instr.conflict, .frameBadCheck, .frameEndFieldError] ++ frames.map Prod.fst,
      exec c s = .next (if s.line.listens = true then
        { s with line := { s.line with recessiveRun := 0, dominantRun := 0 } } else s) := by
    intro hr c hc
    rcases List.mem_append.mp hc with hc | hc
    · simp only [List.mem_cons, List.not_mem_nil, or_false] at hc
      rcases hc with rfl | rfl | rfl <;> exact congrArg Host.Outcome.next (State.endFrame_unfollowed hr)
    · obtain ⟨x, hx, rfl⟩ := List.mem_map.mp hc
      obtain ⟨_, hand, hexec⟩ := exec_frameCommand (s := s) (hframes ▸ hx)
      rw [hexec]
      exact congrArg Host.Outcome.next (State.endFrame_unfollowed hr)
  refine ⟨fun hr => ⟨?_, ?_, fun x hx hbad => ?_, fun x hx hgood ho hd => ?_, fun hs => ⟨?_, fun x hx => ?_⟩⟩,
    fun hr c hc => ⟨fun hl => ?_, fun hl => ?_⟩⟩
  · change Host.Outcome.next (s.endFrame false true id) = _
    rw [State.endFrame, if_pos hr, if_neg Bool.false_ne_true, State.frameEnded_eq]
  · change Host.Outcome.next (s.endFrame true false id) = _
    rw [State.endFrame, if_pos hr, if_pos rfl, if_neg (by simp), acknowledges_of_receives hr, State.frameEnded_eq]
  · obtain ⟨_, hand, hexec⟩ := exec_frameCommand (s := s) (hframes ▸ hx)
    rw [hexec, State.receive_of_bad_check hr (Bool.eq_false_iff.mpr fun k => hbad ((checkGood_iff _).mp k))]
  · obtain ⟨hsource, hand, hexec⟩ := exec_frameCommand (s := s) (hframes ▸ hx)
    rw [hexec, State.receive_of_discarded hr ((checkGood_iff _).mpr hgood) (by rwa [hsource])]
    rcases hd with h | h | h
    · exact .inl (by rwa [hsource])
    · exact .inr (lengthOfKind_of_high h)
    · exact .inr h
  · have hack : s.line.acknowledges = false := by
      rw [acknowledges_of_receives hr]
      simp [hs]
    change Host.Outcome.next (s.endFrame true true State.takeConflict) = _
    rw [State.endFrame, if_pos hr, if_pos rfl, if_neg (by simp [hs]), hack, State.frameEnded_eq]
  · obtain ⟨_, hand, hexec⟩ := exec_frameCommand (s := s) (hframes ▸ hx)
    rw [hexec, State.receive_of_spoilt hr hs]
  · rw [hunfollowed hr c hc, if_pos]
    rcases hl with h | h | h <;> simp [LineController.listens, h]
  · rw [hunfollowed hr c hc, if_neg]
    rcases hl with h | h
    · simp [LineController.listens, h]
    · unfold LineController.sending at h
      unfold LineController.listens
      cases hstate : s.line.state <;> simp_all

/-! ## Conflicts (R108) -/

/-- R108: the line controller goes silent, and the pending series ends. -/
def State.silenced (s : State) : State :=
  (s.onLine (fun l => { l with
      state := .silent
      outgoing := []
      inFlight := none
      promptRequest := false
      announceTimer := none
      spacingTimer := none })).onTicket (fun t => { t with series := none })

theorem State.takeConflict_of_speaking (h : s.line.state ≠ .silent) : s.takeConflict = s.silenced.latch .conflict := by
  rw [State.takeConflict, if_neg h]
  rfl

theorem State.takeConflict_of_silent (h : s.line.state = .silent) : s.takeConflict = s := if_pos h

/-- R101, R108: a good frame of the own source is a conflict. -/
theorem State.receive_of_own {f : Frame} {hand : State → State} (h : Hears s) (hg : checkGood f = true)
    (ho : f.source.toNat = s.loader.ownAddress) : s.receive f hand = (s.frameEnded (acksGood s)).takeConflict := by
  have hown : f.source.toNat = (s.frameEnded (acksGood s)).loader.ownAddress := ho
  rw [State.receive, State.endFrame, if_pos h.1, if_pos hg, if_pos ⟨rfl, h.2⟩, acknowledges_of_hears s h, State.takeGood,
    if_pos hown]

theorem exec_conflict (h : Hears s) : exec .conflict s = .next (s.frameEnded (acksGood s)).takeConflict := by
  change Host.Outcome.next (s.endFrame true true State.takeConflict) = _
  rw [State.endFrame, if_pos h.1, if_pos rfl, if_pos ⟨rfl, h.2⟩, acknowledges_of_hears s h]

/-- R108: a silenced part after CONFLICT is latched. -/
theorem State.silenced_latch_conflict (hoff : s.seq.phase ≠ .offline) (hnew : s.trip.latched.contains .conflict = false) :
    let t := s.silenced.latch .conflict
    t.line = s.silenced.line ∧ t.ticket.series = none ∧ t.share.island = s.share.island ∧
      t.share.faultMarker = s.share.faultMarker ∧ t.share.rings = s.share.rings ∧
      (s.seq.phase ≠ .tripped → t.drives = ⟨false, 0, 0, false⟩ ∧ t.seq.tempCode = some .ea) := by
  intro t
  by_cases ht : s.seq.phase = .tripped
  · have heq : t = s.silenced.onTrip (fun u => { u with latched := latchInto .conflict u.latched }) :=
      State.latch_local_of_tripped (s := s.silenced) rfl ht hnew
    rw [heq]
    exact ⟨rfl, rfl, rfl, rfl, rfl, fun k => absurd ht k⟩
  · have hentered := State.latch_local_entered (s := s.silenced) (c := .conflict) rfl hoff ht hnew
    refine ⟨hentered.refuses rfl, hentered.series, ?_, ?_, ?_, fun _ => ⟨hentered.drives, hentered.tempCode⟩⟩
    · rw [hentered.share]
      rfl
    · rw [hentered.share]
      rfl
    · rw [hentered.share]
      rfl

/-- Settles O39: every good frame of the own source takes the conflict, which silences and trips. -/
theorem conflictSilencesTheStation : Obligations.ConflictSilencesTheStation := by
  intro s kind source bytes causeSet number payload target c hears hoff check request hc
  have hexec : exec c s = .next (s.frameEnded (acksGood s)).takeConflict := by
    rcases hc with rfl | ⟨hown, hc⟩
    · exact exec_conflict hears
    · simp only [List.mem_cons, List.not_mem_nil, or_false] at hc
      rcases hc with rfl | rfl | rfl | rfl | rfl | rfl | rfl <;>
        exact congrArg Host.Outcome.next (State.receive_of_own hears ((checkGood_iff _).mpr rfl) hown)
  refine ⟨fun hspeaks hnew => ?_, fun hsilent => ?_⟩
  · rw [State.takeConflict_of_speaking (s := s.frameEnded (acksGood s)) hspeaks] at hexec
    obtain ⟨hline, hseries, hisland, hmarker, hrings, hdrives⟩ :=
      State.silenced_latch_conflict (s := s.frameEnded (acksGood s)) hoff hnew
    have htrip := State.latch_local_trip (s := (s.frameEnded (acksGood s)).silenced) (c := .conflict) rfl hoff hnew
    refine ⟨_, hexec, by rw [hline]; rfl, by rw [hline]; rfl, by rw [hline]; rfl, by rw [hline]; rfl, by rw [hline]; rfl,
      by rw [hline]; rfl, hseries, by rw [hline]; rfl, by rw [hline]; rfl,
      State.latch_phase (s := (s.frameEnded (acksGood s)).silenced) hoff hnew, ?_, by rw [htrip]; rfl, hdrives, hisland, hmarker,
      hrings, State.latch_loader _ _, State.latch_input _ _, State.latch_peers _ _⟩
    rw [htrip]
    exact (mem_latchInto _ _ _).mpr ⟨by decide, .inl rfl⟩
  · have hacks : acksGood s = true := by simp [acksGood, hsilent]
    rw [hexec, State.takeConflict_of_silent (s := s.frameEnded (acksGood s)) hsilent, hacks, State.frameEnded_eq]

end Sys2Proof.Machine
end


section
/-!
PROOFS. Good frames at their owners (O42, O46, O49).
-/

namespace Sys2Proof.Machine

open Sys2Proof

variable {s t : State} {source : Address}

/-! ## A frame that is handed on -/

/-- R98, R100: the part after the end of a frame that it hears. -/
def State.heard (s : State) : State := { s with line := frameOver (acksGood s) s.line }

theorem State.heard_untouched (s : State) : Untouched [.line] s s.heard := s.frameEnded_untouched _

section

variable (hears : Hears s) (hown : source.toNat ≠ s.loader.ownAddress) (hvalid : validSource source.toNat = true)

include hears hown hvalid

theorem exec_tripFrame_handed (causeSet : Half) :
    exec (.tripFrame source ⟨causeSet, frameCheck 0 source.toNat (halfBytes causeSet)⟩) s =
      .next (s.heard.takeTrip source causeSet) :=
  congrArg Host.Outcome.next (s.receive_handed _ _ hears ((checkGood_iff _).mpr rfl) hown hvalid rfl)

theorem exec_clearFrame_handed :
    exec (.clearFrame ⟨source, frameCheck 1 source.toNat []⟩) s = .next (s.heard.takeClear source) :=
  congrArg Host.Outcome.next (s.receive_handed _ _ hears ((checkGood_iff _).mpr rfl) hown hvalid rfl)

theorem exec_announceFrame_handed (payload : AnnouncePayload) :
    exec (.announceFrame source ⟨payload, frameCheck 2 source.toNat (announcePayloadBytes payload)⟩) s =
      .next (s.heard.takeAnnounce source payload) :=
  congrArg Host.Outcome.next (s.receive_handed _ _ hears ((checkGood_iff _).mpr rfl) hown hvalid rfl)

theorem exec_inquiry_handed (target : Byte) (number : Half) :
    exec (.inquiry source target ⟨number, frameCheck 3 source.toNat (target :: halfBytes number)⟩) s =
      .next (s.heard.takeInquiry source target number) :=
  congrArg Host.Outcome.next (s.receive_handed _ _ hears ((checkGood_iff _).mpr rfl) hown hvalid rfl)

theorem exec_collect_handed (target : Byte) (number : Half) :
    exec (.collect source target ⟨number, frameCheck 5 source.toNat (target :: halfBytes number)⟩) s =
      .next (s.heard.takeCollect source target number) :=
  congrArg Host.Outcome.next (s.receive_handed _ _ hears ((checkGood_iff _).mpr rfl) hown hvalid rfl)

theorem exec_reportFrame_handed {part : List Byte} (hmin : 4 ≤ part.length) (hmax : part.length ≤ 15) :
    exec (.reportFrame source ⟨part, frameCheck 4 source.toNat part⟩) s = .next (s.heard.refreshPeer source.toNat) :=
  congrArg Host.Outcome.next (s.receive_handed _ _ hears ((checkGood_iff _).mpr rfl) hown hvalid (by
    change (decide (4 ≤ part.length) && decide (part.length ≤ 15)) = true
    simp [hmin, hmax]))

end

/-! ## The record of the source (R120 to R123) -/

theorem findPeer_touchPeer_other {a b : Nat} (hb : b ≠ a) {f : Peer → Peer} (hf : ∀ p, (f p).address = p.address)
    (ps : List Peer) : findPeer (touchPeer a f ps) b = findPeer ps b := by
  unfold touchPeer
  split
  · rw [findPeer_map (fun p => if p.address = a then f p else p) (fun p => by split <;> simp [hf])]
    cases h : findPeer ps b with
    | none => rfl
    | some p => rw [Option.map_some, if_neg fun ha => hb ((address_of_findPeer h).symm.trans ha)]
  · have hne : a ≠ b := fun h => hb h.symm
    unfold findPeer
    rw [List.find?_append, List.find?_cons_of_neg (by simp [hf, newPeer_address, hne])]
    simp

theorem findPeer_touchPeer_same (a : Nat) {f : Peer → Peer} (hf : ∀ p, (f p).address = p.address) (ps : List Peer) :
    findPeer (touchPeer a f ps) a = some (f ((findPeer ps a).getD (newPeer a))) := by
  unfold touchPeer
  split
  · rename_i h
    rw [findPeer_map (fun p => if p.address = a then f p else p) (fun p => by split <;> simp [hf])]
    cases hp : findPeer ps a with
    | none =>
      obtain ⟨p, hp', hpa⟩ := List.any_eq_true.mp h
      exact absurd hpa (List.find?_eq_none.mp hp p hp')
    | some p => rw [Option.map_some, if_pos (address_of_findPeer hp), Option.getD_some]
  · rename_i h
    have hnone : findPeer ps a = none := List.find?_eq_none.mpr fun p hp hpa => h (List.any_eq_true.mpr ⟨p, hp, hpa⟩)
    rw [hnone, Option.getD_none]
    unfold findPeer at hnone ⊢
    rw [List.find?_append, hnone, List.find?_cons_of_pos (by simp [hf, newPeer_address])]
    rfl

theorem isStation_of_validSource {a : Nat} (h : validSource a = true) : isStation a = decide (a ≤ 16) := by
  simp only [validSource, isStation, isObserver, Bool.or_eq_true, Bool.and_eq_true, decide_eq_true_eq] at h
  rw [Bool.eq_iff_iff]
  simp only [isStation, Bool.and_eq_true, decide_eq_true_eq]
  omega

theorem newPeer_of_validSource {a : Nat} (h : validSource a = true) : newPeer a = {
    address := a
    cls := if a ≤ 16 then .station else .observer
    liveness := .current
    lastPhase := none
    demands := ⟨0, 0, 0⟩
    islandFlag := false
    signature := if a ≤ 16 then .unheard else .absent
    age := 0
    lapsedTime := 0 } := by
  simp [newPeer, classOf, isStation_of_validSource h]

theorem Peer.refresh_address (p : Peer) : p.refresh.address = p.address := rfl

/-- What a frame leaves of the peer table and of the blocks it does not reach. -/
structure Touched (a : Nat) (f : Peer → Peer) (s t : State) : Prop where
  peers : t.peers = touchPeer a f s.peers
  loader : t.loader = s.loader
  input : t.input = s.input
  resetting : t.resetting = s.resetting

theorem touched_takeTrip (causeSet : Half) (s : State) :
    Touched source.toNat Peer.refresh s (s.heard.takeTrip source causeSet) :=
  ⟨State.addRemote_peers _ _ _, State.addRemote_loader _ _ _, State.addRemote_input _ _ _, State.addRemote_resetting _ _ _⟩

theorem touched_takeInquiry (target : Byte) (number : Half) (s : State) :
    Touched source.toNat Peer.refresh s (s.heard.takeInquiry source target number) := by
  unfold State.takeInquiry State.answerInquiry
  split
  · split
    · exact ⟨rfl, rfl, rfl, rfl⟩
    · split <;> exact ⟨rfl, rfl, rfl, rfl⟩
  · exact ⟨rfl, rfl, rfl, rfl⟩

theorem touched_takeCollect (target : Byte) (number : Half) (s : State) :
    Touched source.toNat Peer.refresh s (s.heard.takeCollect source target number) := by
  unfold State.takeCollect
  split <;> exact ⟨rfl, rfl, rfl, rfl⟩

theorem State.mendList_keeps (o : Nat) (outstanding : Bool) (s : State) : (s.mendList o outstanding).peers = s.peers ∧
    (s.mendList o outstanding).loader = s.loader ∧ (s.mendList o outstanding).input = s.input ∧
    (s.mendList o outstanding).resetting = s.resetting := by
  unfold State.mendList
  split
  · split
    · exact ⟨rfl, rfl, rfl, rfl⟩
    · exact ⟨State.addRemote_peers _ _ _, State.addRemote_loader _ _ _, State.addRemote_input _ _ _,
        State.addRemote_resetting _ _ _⟩
  · exact ⟨rfl, rfl, rfl, rfl⟩

theorem touched_takeAnnounce (payload : AnnouncePayload) (s : State) :
    Touched source.toNat (Peer.announce s.loader.signature payload) s (s.heard.takeAnnounce source payload) := by
  obtain ⟨hpeers, hloader, hinput, hresetting⟩ :=
    (s.heard.announcePeer source.toNat payload).mendList_keeps source.toNat (announceOutstanding payload)
  exact ⟨hpeers, hloader, hinput, hresetting⟩

/-- R121, R123: what an ANNOUNCE fills in. -/
theorem Peer.announce_eq (own : Option Nat) (payload : AnnouncePayload) (p : Peer) : p.announce own payload = { p with
    liveness := .current, age := 0, lapsedTime := 0, lastPhase := some payload.phaseCode.toNat
    demands := ⟨payload.supply.toNat, payload.ret.toNat, payload.header.toNat⟩
    islandFlag := payload.flags.getLsbD 6
    signature := compareSignature own p.cls payload.signature } := rfl

/-- Settles O42: each kind of frame touches its source's record. -/
theorem framesRefreshTheirSource : Obligations.FramesRefreshTheirSource := by
  intro s source causeSet number target payload part c hears hown hvalid hmin hmax announce report hc held fresh
  have hheld : (findPeer s.peers source.toNat).getD (newPeer source.toNat) = held := by
    rw [newPeer_of_validSource hvalid]
  have hrefresh : ∀ t, exec c s = .next t → c ≠ announce → Touched source.toNat Peer.refresh s t →
      (c = report → t = { s with line := frameOver (acksGood s) s.line, peers := t.peers }) →
      ∃ t, exec c s = .next t ∧ t.loader = s.loader ∧ t.input = s.input ∧ t.resetting = s.resetting ∧
        (∀ b, b ≠ source.toNat → findPeer t.peers b = findPeer s.peers b) ∧
        (c ≠ announce → findPeer t.peers source.toNat = some fresh) ∧
        (c = announce → findPeer t.peers source.toNat = some { fresh with
          lastPhase := some payload.phaseCode.toNat
          demands := ⟨payload.supply.toNat, payload.ret.toNat, payload.header.toNat⟩
          islandFlag := payload.flags.getLsbD 6
          signature := match held.cls with
            | .observer => .absent
            | .station => if s.loader.signature = some payload.signature.toNat then .match else .mismatch }) ∧
        (c = report → t = { s with line := frameOver (acksGood s) s.line, peers := t.peers }) := by
    intro t ht hne htouched hreport
    refine ⟨t, ht, htouched.loader, htouched.input, htouched.resetting, fun b hb => ?_, fun _ => ?_, fun h => absurd h hne,
      hreport⟩
    · rw [htouched.peers, findPeer_touchPeer_other hb Peer.refresh_address]
    · rw [htouched.peers, findPeer_touchPeer_same _ Peer.refresh_address, hheld]
      rfl
  simp only [List.mem_cons, List.not_mem_nil, or_false] at hc
  rcases hc with rfl | rfl | rfl | rfl | rfl | rfl
  · exact hrefresh _ (exec_tripFrame_handed hears hown hvalid causeSet) Instr.noConfusion (touched_takeTrip causeSet s)
      Instr.noConfusion
  · exact hrefresh _ (exec_clearFrame_handed hears hown hvalid) Instr.noConfusion ⟨rfl, rfl, rfl, rfl⟩ Instr.noConfusion
  · exact hrefresh _ (exec_inquiry_handed hears hown hvalid target number) Instr.noConfusion
      (touched_takeInquiry target number s) Instr.noConfusion
  · exact hrefresh _ (exec_collect_handed hears hown hvalid target number) Instr.noConfusion
      (touched_takeCollect target number s) Instr.noConfusion
  · exact hrefresh _ (exec_reportFrame_handed hears hown hvalid hmin hmax) Instr.noConfusion ⟨rfl, rfl, rfl, rfl⟩ fun _ => rfl
  · have htouched := touched_takeAnnounce (source := source) payload s
    refine ⟨_, exec_announceFrame_handed hears hown hvalid payload, htouched.loader, htouched.input, htouched.resetting,
      fun b hb => ?_, fun h => absurd rfl h, fun _ => ?_, fun h => Instr.noConfusion h⟩
    · rw [htouched.peers, findPeer_touchPeer_other hb (Peer.announce_address _ _)]
    · rw [htouched.peers, findPeer_touchPeer_same _ (Peer.announce_address _ _), hheld, Peer.announce_eq]
      have hsignature : compareSignature s.loader.signature held.cls payload.signature = (match held.cls with
          | .observer => .absent
          | .station => if s.loader.signature = some payload.signature.toNat then .match else .mismatch) := by
        cases held.cls <;> rfl
      exact congrArg (fun x => some { fresh with
        lastPhase := some payload.phaseCode.toNat
        demands := ⟨payload.supply.toNat, payload.ret.toNat, payload.header.toNat⟩
        islandFlag := payload.flags.getLsbD 6
        signature := x }) hsignature

end Sys2Proof.Machine
end


section
/-!
PROOFS. The requests of observers (O49).
-/

namespace Sys2Proof.Machine

open Sys2Proof

variable {s t : State} {source : Address}

/-- R122: the part after a frame of a source that it hears, before what the frame asks for. -/
def State.heardFrom (a : Nat) (s : State) : State := s.heard.refreshPeer a

theorem State.heardFrom_untouched (a : Nat) (s : State) : Untouched [.line, .peers] s (s.heardFrom a) := by
  intro b hb
  cases b <;> simp_all [Block.same] <;> rfl

theorem takesRequests_iff_of_receives (h : s.line.receives = true) :
    s.line.takesRequests = true ↔ s.line.state ≠ .silent := by
  simp [LineController.takesRequests, LineController.state_ne_off_of_receives h]

theorem State.addressedTo_iff (hvalid : validSource source.toNat = true) (target : Byte) :
    s.addressedTo source target = true ↔ 24 ≤ source.toNat ∧ target.toNat = s.loader.ownAddress := by
  have hle : 24 ≤ source.toNat → source.toNat ≤ 30 := by
    simp only [validSource, isStation, isObserver, Bool.or_eq_true, Bool.and_eq_true, decide_eq_true_eq] at hvalid
    omega
  simp only [State.addressedTo, isObserver, Bool.and_eq_true, decide_eq_true_eq, beq_iff_eq]
  exact ⟨fun ⟨⟨h, _⟩, ht⟩ => ⟨h, ht⟩, fun ⟨h, ht⟩ => ⟨⟨h, hle h⟩, ht⟩⟩

/-! ## The series of an INQUIRY (R176) -/

/-- R176: the open ticket is looked for first, then the store. -/
theorem TicketUnit.find_eq (n : Nat) (u : TicketUnit) :
    u.find n = (u.current.toList ++ u.store).find? (fun x => decide (x.number = n)) := by
  have hpred : (fun x : Ticket => x.number == n) = fun x => decide (x.number = n) := funext fun x => rfl
  unfold TicketUnit.find
  rw [hpred]
  cases u.current with
  | none => rfl
  | some k =>
    by_cases hk : k.number = n
    · simp [hk]
    · simp [hk]

theorem TicketUnit.seriesFor_oldest {u : TicketUnit} {k : Ticket} {rest : List Ticket} (h : u.store = k :: rest) :
    u.seriesFor 0 = ⟨k.number, partsOf k⟩ := by
  simp [TicketUnit.seriesFor, h]

theorem TicketUnit.seriesFor_empty {u : TicketUnit} (h : u.store = []) : u.seriesFor 0 = ⟨0, 1⟩ := by
  simp [TicketUnit.seriesFor, h]

theorem TicketUnit.seriesFor_found {u : TicketUnit} {k : Ticket} {n : Nat} (hn : n ≠ 0) (h : u.find n = some k) :
    u.seriesFor n = ⟨n, partsOf k⟩ := by
  simp [TicketUnit.seriesFor, hn, h]

theorem TicketUnit.seriesFor_unknown {u : TicketUnit} {n : Nat} (hn : n ≠ 0) (h : u.find n = none) :
    u.seriesFor n = ⟨n, 1⟩ := by
  simp [TicketUnit.seriesFor, hn, h]

theorem State.answerInquiry_pending (n : Nat) (h : s.ticket.series.isSome = true) : s.answerInquiry n = s := if_pos h

theorem State.answerInquiry_refused (n : Nat) (h : s.line.takesRequests = false) : s.answerInquiry n = s := by
  simp [State.answerInquiry, h]

theorem State.answerInquiry_taken (n : Nat) (hseries : s.ticket.series = none) (h : s.line.takesRequests = true) :
    s.answerInquiry n = { s with
      ticket := { s.ticket with series := some (s.ticket.seriesFor n) }
      line := s.line.queueSeries (s.ticket.seriesFor n).parts } := by
  simp [State.answerInquiry, hseries, h, State.onTicket, State.onLine]

/-! ## The two requests -/

theorem State.takeInquiry_elsewhere {target : Byte} (number : Half) (h : s.addressedTo source target = false) :
    s.takeInquiry source target number = s.refreshPeer source.toNat := by
  simp [State.takeInquiry, h]

theorem State.takeInquiry_addressed {target : Byte} (number : Half) (h : s.addressedTo source target = true) :
    s.takeInquiry source target number = (s.refreshPeer source.toNat).answerInquiry number.toNat := if_pos h

theorem TicketUnit.collect_protected {u : TicketUnit} {n : Nat} (h : u.series.map Series.number = some n) :
    u.collect n = u := if_pos h

theorem TicketUnit.collect_taken {u : TicketUnit} {n : Nat} (h : u.series.map Series.number ≠ some n) :
    u.collect n = { u with store := u.store.filter (fun k => decide (k.number ≠ n)) } := by
  rw [TicketUnit.collect, if_neg h]
  congr 2
  funext k
  rw [Bool.eq_iff_iff, bne_iff_ne, decide_eq_true_eq]

/-- R176: what an INQUIRY handed on leaves. -/
theorem State.takeInquiry_cases (target : Byte) (number : Half) (s : State) :
    (¬ (s.heard.addressedTo source target = true ∧ s.ticket.series = none ∧ s.line.takesRequests = true) ∧
      s.heard.takeInquiry source target number = s.heardFrom source.toNat) ∨
    ((s.heard.addressedTo source target = true ∧ s.ticket.series = none ∧ s.line.takesRequests = true) ∧
      s.heard.takeInquiry source target number = { s.heardFrom source.toNat with
        ticket := { s.ticket with series := some (s.ticket.seriesFor number.toNat) }
        line := s.heard.line.queueSeries (s.ticket.seriesFor number.toNat).parts }) := by
  by_cases ha : s.heard.addressedTo source target = true
  · rw [State.takeInquiry_addressed number ha]
    cases hseries : s.ticket.series with
    | some x =>
      exact .inl ⟨fun h => Option.some_ne_none x h.2.1,
        State.answerInquiry_pending _ (show s.ticket.series.isSome = true by rw [hseries]; rfl)⟩
    | none =>
      cases hreq : s.line.takesRequests with
      | false => exact .inl ⟨fun h => Bool.noConfusion h.2.2, State.answerInquiry_refused _ hreq⟩
      | true => exact .inr ⟨⟨ha, rfl, rfl⟩, State.answerInquiry_taken _ hseries hreq⟩
  · exact .inl ⟨fun h => ha h.1, State.takeInquiry_elsewhere number (by simpa using ha)⟩

theorem State.takeCollect_eq (target : Byte) (number : Half) (s : State) :
    s.heard.takeCollect source target number = { s.heardFrom source.toNat with
      ticket := if s.heard.addressedTo source target = true then s.ticket.collect number.toNat else s.ticket } := by
  unfold State.takeCollect
  split <;> rfl

/-- Settles O49: an INQUIRY by whether it is addressed, whether a series is pending and whether the controller is silent; a
COLLECT by whether it is addressed and whether the series protects the number. -/
theorem observersAskAndCollect : Obligations.ObserversAskAndCollect := by
  intro s source target number hears hown hvalid addressed parts ended checked all
  have haddressed : s.heard.addressedTo source target = true ↔ addressed := State.addressedTo_iff (s := s.heard) hvalid target
  have hrequests : s.line.takesRequests = true ↔ s.line.state ≠ .silent := takesRequests_iff_of_receives hears.1
  have hsame := s.heardFrom_untouched source.toNat
  refine ⟨⟨_, exec_inquiry_handed hears hown hvalid target number, ?_, ?_, ?_⟩,
    _, exec_collect_handed hears hown hvalid target number, ?_, ?_, ?_, ?_⟩
  · rcases s.takeInquiry_cases (source := source) target number with ⟨_, h⟩ | ⟨_, h⟩ <;> rw [h] <;> intro b hb <;>
      cases b <;> simp_all [Block.same] <;> rfl
  · intro hnot
    rcases s.takeInquiry_cases (source := source) target number with ⟨_, h⟩ | ⟨⟨ha, hseries, hreq⟩, _⟩
    · rw [h]
      exact ⟨rfl, rfl⟩
    · simp [haddressed.mp ha, hseries, hrequests.mp hreq] at hnot
  · intro ha hseries hsilent
    rcases s.takeInquiry_cases (source := source) target number with ⟨hnot, _⟩ | ⟨_, h⟩
    · exact absurd ⟨haddressed.mpr ha, hseries, hrequests.mpr hsilent⟩ hnot
    · rw [h]
      refine ⟨s.ticket.seriesFor number.toNat, rfl, rfl, fun hn hstore => ?_, fun k rest hn hstore => ?_,
        fun k hn hk => ?_, fun hn hk => ?_⟩
      · rw [hn, TicketUnit.seriesFor_empty hstore]
      · rw [hn, TicketUnit.seriesFor_oldest hstore]
        rfl
      · rw [TicketUnit.seriesFor_found hn ((s.ticket.find_eq _).trans hk)]
        rfl
      · refine TicketUnit.seriesFor_unknown hn ((s.ticket.find_eq _).trans (List.find?_eq_none.mpr fun k hk' heq => ?_))
        exact hk (List.mem_map.mpr ⟨k, hk', of_decide_eq_true heq⟩)
  · rw [State.takeCollect_eq]
    intro b hb
    cases b <;> simp_all [Block.same] <;> rfl
  · rw [State.takeCollect_eq]
    rfl
  · rw [State.takeCollect_eq]
    rintro (hnot | hprotected)
    · exact if_neg fun h => hnot (haddressed.mp h)
    · show (if _ then _ else _) = _
      rw [TicketUnit.collect_protected hprotected, ite_self]
  · intro ha hfree
    rw [State.takeCollect_eq]
    exact (if_pos (haddressed.mpr ha)).trans (TicketUnit.collect_taken hfree)

end Sys2Proof.Machine
end


section
/-!
PROOFS. The trip list and the frames of other stations (O46).
-/

namespace Sys2Proof.Machine

open Sys2Proof

variable {s b t : State} {source : Address}

/-! ## Cause sets and entries -/

/-- R159: the four bits of a carried cause set that count. -/
theorem entryCausesOf_half (h : Half) : entryCausesOf (sidingSetOfHalf h) = if h.toNat % 16 = 0 then .unknown
    else .known ⟨h.getLsbD 0, h.getLsbD 1, h.getLsbD 2, h.getLsbD 3⟩ := by
  have hempty : (sidingSetOfHalf h).isEmpty = true ↔ h.toNat % 16 = 0 := by
    simp only [SidingSet.isEmpty, sidingSetOfHalf, BitVec.getLsbD, Nat.testBit_eq_decide_div_mod_eq, Bool.not_eq_true',
      Bool.or_eq_false_iff, decide_eq_false_iff_not]
    omega
  rw [entryCausesOf]
  simp only [hempty]
  rfl

theorem setEntry_eq (o : Nat) (cs : EntryCauses) (l : List TripEntry) :
    setEntry o cs l = if l.any (fun e => decide (e.originator = o)) = true then
      l.map (fun e => if e.originator = o then ⟨o, cs⟩ else e) else l ++ [⟨o, cs⟩] := by
  have hmap : (fun e : TripEntry => if e.originator = o then { e with causes := cs } else e) =
      fun e => if e.originator = o then ⟨o, cs⟩ else e := by
    funext e
    split
    · next h => rw [← h]
    · rfl
  rw [setEntry, hmap]
  rfl

theorem removeEntry_eq (o : Nat) (l : List TripEntry) : removeEntry o l = l.filter (fun e => decide (e.originator ≠ o)) := by
  unfold removeEntry
  congr 1
  funext e
  rw [Bool.eq_iff_iff, bne_iff_ne, decide_eq_true_eq]

/-! ## A remote entry -/

theorem State.addRemote_of_cons {o : Nat} {cs : EntryCauses} (h : s.trip.list ≠ []) :
    s.addRemote o cs = s.onTrip (fun t => { t with list := setEntry o cs t.list }) := by
  rw [State.addRemote, if_neg (by simpa using h)]

theorem State.addRemote_of_nil {o : Nat} {cs : EntryCauses} (h : s.trip.list = []) :
    s.addRemote o cs = { s with trip := { s.trip with list := [⟨o, cs⟩] } }.tripEntry cs.first o := by
  rw [State.addRemote, if_pos (by simp [h])]
  simp [State.onTrip, h, setEntry]

/-- R159: the part before an addition differs from the part before the frame in the line controller and the peer table. -/
abbrev FrameTaken (s b : State) : Prop := Untouched [.line, .peers] s b

theorem frameTaken_heardFrom (a : Nat) (s : State) : FrameTaken s (s.heardFrom a) := s.heardFrom_untouched a

theorem frameTaken_announcePeer (a : Nat) (payload : AnnouncePayload) (s : State) :
    FrameTaken s (s.heard.announcePeer a payload) := by
  intro b hb
  cases b <;> simp_all [Block.same] <;> rfl

theorem untouched_onTrip_of_taken (h : FrameTaken s b) (f : TripUnit → TripUnit) :
    Untouched [.line, .peers, .trip] s (b.onTrip f) := by
  intro x hx
  have hxb := h x (by simp_all)
  cases x <;> simp_all [Block.same]

/-- R37, R159, R161: the first entry of the list. -/
theorem State.addRemote_first {o : Nat} {cs : EntryCauses} (h : FrameTaken s b) (hnil : s.trip.list = []) :
    (s.seq.phase = .tripped → b.addRemote o cs = b.onTrip (fun t => { t with list := [⟨o, cs⟩] })) ∧
    (s.seq.phase ≠ .tripped → s.seq.phase ≠ .offline →
      TripEntered cs.first o (b.onTrip (fun t => { t with list := [⟨o, cs⟩] })) (b.addRemote o cs)) := by
  have hseq : b.seq = s.seq := h .seq (by decide)
  have htrip : b.trip = s.trip := h .trip (by decide)
  rw [State.addRemote_of_nil (htrip ▸ hnil)]
  refine ⟨fun hp => State.tripEntry_of_tripped _ _ (.inr ?_), fun hp hoff => State.tripEntry_entered _ _ ?_ ?_⟩
  · rw [← hp, ← hseq]
  · rwa [← hseq] at hoff
  · rwa [← hseq] at hp

/-! ## The list repair of an ANNOUNCE (R161) -/

theorem State.mendList_clear (o : Nat) (s : State) : s.mendList o false = s.dropRemote o := rfl

theorem State.mendList_present {o : Nat} (h : s.trip.list.any (fun e => decide (e.originator = o)) = true) :
    s.mendList o true = s := if_pos h

theorem State.mendList_absent {o : Nat} (h : s.trip.list.any (fun e => decide (e.originator = o)) = false) :
    s.mendList o true = s.addRemote o .unknown := by
  rw [State.mendList, if_pos rfl]
  refine if_neg (fun hany => Bool.false_ne_true (h.symm.trans ?_))
  exact hany

theorem State.dropRemote_trip {o : Nat} (h : FrameTaken s b) : (b.dropRemote o).trip =
    { s.trip with list := s.trip.list.filter (fun e => decide (e.originator ≠ o)) } := by
  have htrip : b.trip = s.trip := h .trip (by decide)
  rw [← removeEntry_eq, ← htrip]
  rfl

/-- R37, R162: what the entry for the first remote trip leaves. -/
theorem TripEntered.of_frame {c : Cause} {o : Nat} {f : TripUnit → TripUnit} (hb : FrameTaken s b)
    (hsame : Untouched [.seq, .check, .det, .valve, .line, .share, .trip, .ticket] b t)
    (h : TripEntered c o (b.onTrip f) t) :
    Untouched [.seq, .check, .det, .valve, .line, .peers, .share, .trip, .ticket] s t ∧ t.trip = f s.trip ∧
      t.seq.phase = .tripped ∧ t.seq.tempCode = some (causeCode c) ∧ t.drives = ⟨false, 0, 0, false⟩ ∧
      t.seq.drainTimer = none ∧ t.seq.recoveryTimer = none ∧ t.seq.bleedTimer = none ∧
      (s.armsUncoupled = false → t.ticket.current = noted .trip (16 * o + causeNumber c) s.ticket) := by
  have hinput : b.input = s.input := hb .input (by decide)
  have hticket : b.ticket = s.ticket := hb .ticket (by decide)
  have htrip : b.trip = s.trip := hb .trip (by decide)
  refine ⟨(hb.weaken (by decide)).trans (hsame.weaken (by decide)), by rw [h.trip, State.onTrip_trip, htrip], h.phase, h.tempCode, h.drives, by rw [h.seq], by rw [h.seq],
    by rw [h.seq], fun ha => ?_⟩
  · have hstands := h.stands (.inl (by rw [← ha, State.armsUncoupled, State.onTrip_input, hinput]; rfl))
    rw [hstands.1, State.onTrip_ticket, hticket, Nat.mul_comm]

/-- Settles O46: an addition to a list with entries, the first entry by the phase, a removal, and the repair by the
trip-outstanding bit and the entry that is there or not. -/
theorem remoteTripsJoinTheList : Obligations.RemoteTripsJoinTheList := by
  intro s source causeSet payload hears hown hvalid causes present trip clear announce flag without
  have hannounce := exec_announceFrame_handed hears hown hvalid payload
  have hheard := frameTaken_heardFrom source.toNat s
  have hfilled := frameTaken_announcePeer source.toNat payload s
  have hcauses : entryCausesOf (sidingSetOfHalf causeSet) = causes := entryCausesOf_half causeSet
  have htrip : exec trip s = .next ((s.heardFrom source.toNat).addRemote source.toNat causes) := by
    rw [← hcauses]
    exact exec_tripFrame_handed hears hown hvalid causeSet
  have hclear : exec clear s = .next ((s.heardFrom source.toNat).dropRemote source.toNat) :=
    exec_clearFrame_handed hears hown hvalid
  rw [State.takeAnnounce, announceOutstanding] at hannounce
  refine ⟨fun hcons => ⟨_, htrip, ?_⟩, fun hnil x hx hflag => ?_,
    ⟨_, hclear, untouched_onTrip_of_taken hheard _, State.dropRemote_trip hheard⟩,
    fun hflag => ?_, fun hflag hpresent => ?_, fun hflag hpresent hcons => ?_⟩
  · rw [State.addRemote_of_cons (s := s.heardFrom source.toNat) hcons]
    exact ⟨untouched_onTrip_of_taken hheard _, rfl, setEntry_eq _ _ _⟩
  · have hbase : ∃ b, FrameTaken s b ∧ exec x.1 s = .next (b.addRemote source.toNat x.2) := by
      simp only [List.mem_cons, List.not_mem_nil, or_false] at hx
      rcases hx with rfl | rfl
      · exact ⟨_, hheard, htrip⟩
      · have hout : payload.flags.getLsbD 7 = true := hflag rfl
        refine ⟨_, hfilled, hannounce.trans (congrArg _ ?_)⟩
        rw [hout]
        exact State.mendList_absent (s := s.heard.announcePeer source.toNat payload)
          (show s.trip.list.any _ = false by rw [hnil]; rfl)
    have hrepair : x.1 = announce → x.2 = .unknown := by
      simp only [List.mem_cons, List.not_mem_nil, or_false] at hx
      rcases hx with rfl | rfl
      · exact fun h => Instr.noConfusion h
      · exact fun _ => rfl
    obtain ⟨b, hb, hexec⟩ := hbase
    obtain ⟨htripped, hentered⟩ := State.addRemote_first (o := source.toNat) (cs := x.2) hb hnil
    refine ⟨fun hp => ⟨_, hexec, ?_⟩, fun hp hoff => ⟨_, hexec, ?_⟩⟩
    · rw [htripped hp, State.onTrip_trip, hb .trip (by decide)]
      exact ⟨untouched_onTrip_of_taken hb _, rfl⟩
    · obtain ⟨hsame, htrip', hphase, hcode, hdrives, hdrain, hrecovery, hbleed, hnote⟩ :=
        (hentered hp hoff).of_frame hb (State.addRemote_untouched _ _ _)
      refine ⟨hsame, htrip', hphase, hcode, fun h => ?_, hdrives, hdrain, hrecovery, hbleed, fun ha => ⟨hnote ha, fun h => ?_⟩⟩
      · rw [hcode, hrepair h]
        rfl
      · rw [hnote ha, hrepair h]
        rfl
  · have hout : payload.flags.getLsbD 7 = false := hflag
    rw [hout, State.mendList_clear] at hannounce
    exact ⟨_, hannounce, untouched_onTrip_of_taken hfilled _, State.dropRemote_trip hfilled⟩
  · have hout : payload.flags.getLsbD 7 = true := hflag
    rw [hout, State.mendList_present (s := s.heard.announcePeer source.toNat payload) hpresent] at hannounce
    exact ⟨_, hannounce, hfilled⟩
  · have hout : payload.flags.getLsbD 7 = true := hflag
    rw [hout, State.mendList_absent (s := s.heard.announcePeer source.toNat payload) hpresent,
      State.addRemote_of_cons (s := s.heard.announcePeer source.toNat payload) hcons] at hannounce
    refine ⟨_, hannounce, untouched_onTrip_of_taken hfilled _, ?_⟩
    show ({ s.trip with list := setEntry source.toNat .unknown s.trip.list } : TripUnit) = _
    rw [setEntry_eq]
    simp [present, hpresent]

end Sys2Proof.Machine
end


section
/-!
PROOFS. The reports of a sample event and the taking of a cause (O45).
-/

namespace Sys2Proof.Machine

open Sys2Proof

variable {s b t : State} {c : Cause}

/-! ## The reports (R5, R36, R155) -/

theorem Debouncer.isActive_iff (d : Debouncer) : d.isActive = true ↔ d.stable = .active := by
  simp [Debouncer.isActive]

theorem Debouncer.not_isActive_iff (d : Debouncer) : d.isActive = false ↔ d.stable ≠ .active := by
  simp [Debouncer.isActive]

theorem mem_tripReports_esd (s : State) : .cause .esd ∈ s.tripReports ↔ s.input.debounce.esd.stable = .active := by
  rw [State.tripReports, ← Debouncer.isActive_iff]
  cases s.input.debounce.esd.isActive <;> cases s.input.debounce.gasAlarm.isActive <;> decide

theorem mem_tripReports_gas (s : State) :
    .cause .gas ∈ s.tripReports ↔ s.input.debounce.gasAlarm.stable = .active := by
  rw [State.tripReports, ← Debouncer.isActive_iff]
  cases s.input.debounce.esd.isActive <;> cases s.input.debounce.gasAlarm.isActive <;> decide

theorem State.sensorFailed_iff (s : State) : s.sensorFailed = true ↔
    ∃ x ∈ [s.input.sensors.pCar, s.input.sensors.pLiq, s.input.sensors.tLiq, s.input.sensors.x, s.input.sensors.y,
      s.input.sensors.z], x.status = .fail := by
  simp [State.sensorFailed, sixAny, or_assoc]

theorem State.sensorPhase_iff (hoff : s.seq.phase ≠ .offline) :
    s.sensorPhase = true ↔ s.seq.phase ≠ .idle ∧ (s.seq.phase = .tripped → s.ticketOpen = true) := by
  unfold State.sensorPhase
  cases hp : s.seq.phase <;> simp_all

theorem mem_sensorReports (hoff : s.seq.phase ≠ .offline) (r : SampleReport) : r ∈ s.sensorReports ↔
    r = .cause .sensor ∧ s.sensorFailed = true ∧ s.seq.phase ≠ .idle ∧
      (s.seq.phase = .tripped → s.ticketOpen = true) := by
  rw [← State.sensorPhase_iff hoff, State.sensorReports]
  cases s.sensorFailed <;> cases s.sensorPhase <;> simp

theorem mem_lossReports (s : State) (r : SampleReport) : r ∈ s.lossReports ↔
    (r = .cause .ground ∧ s.groundOk = false) ∨ (r = .cause .uncouple ∧ s.armsCoupled = false) := by
  rw [State.lossReports]
  cases s.groundOk <;> cases s.armsCoupled <;> simp

theorem State.armsCoupled_false (s : State) : s.armsCoupled = false ↔
    s.input.debounce.liquidArm.stable ≠ .active ∨ s.input.debounce.vapourArm.stable ≠ .active := by
  rw [← Debouncer.not_isActive_iff, ← Debouncer.not_isActive_iff, State.armsCoupled, Bool.and_eq_false_iff]

theorem mem_supervisionReports (s : State) (r : SampleReport) : r ∈ s.supervisionReports ↔
    (s.seq.phase = .push ∨ s.seq.phase = .drain ∨ s.seq.phase = .recover ∨ s.seq.phase = .hold) ∧
      r ∈ s.lossReports := by
  unfold State.supervisionReports
  cases s.seq.phase <;> simp

/-! ## A TRIP request (R109, R110) -/

theorem insertFrame_perm (f : OutFrame) (l : List OutFrame) : (insertFrame f l).Perm (f :: l) := by
  have hnot : (fun g : OutFrame => decide (f.kind < g.kind)) = fun g => !decide (g.kind ≤ f.kind) := by
    funext g
    rw [Bool.eq_iff_iff, Bool.not_eq_true', decide_eq_true_eq, decide_eq_false_iff_not, Nat.not_le]
  rw [insertFrame, hnot]
  exact List.perm_middle.trans (List.Perm.cons _ (List.filter_append_perm _ l))

theorem LineController.count_add_other {f g : OutFrame} (h : f ≠ g) (l : LineController) :
    (l.add f).outgoing.count g = l.outgoing.count g := by
  unfold LineController.add
  split
  · rfl
  · exact ((insertFrame_perm f l.outgoing).count_eq g).trans (List.count_cons_of_ne h)

theorem LineController.count_add_same {f : OutFrame} {l : LineController} (h : l.outgoing.count f ≤ 1) :
    (l.add f).outgoing.count f = 1 := by
  unfold LineController.add
  split
  · next hmem =>
    have : 0 < l.outgoing.count f := List.count_pos_iff.mpr (by simpa using hmem)
    omega
  · next hmem =>
    have : l.outgoing.count f = 0 := List.count_eq_zero.mpr (by simpa using hmem)
    have hcount := (insertFrame_perm f l.outgoing).count_eq f
    rw [List.count_cons_self, this] at hcount
    exact hcount

theorem LineController.count_remove_other {f g : OutFrame} (h : f ≠ g) (l : LineController) :
    (l.remove f).outgoing.count g = l.outgoing.count g := by
  refine List.count_filter ?_
  rw [bne_iff_ne]
  exact h.symm

theorem LineController.remove_inFlight_frame (f : OutFrame) (l : LineController) :
    (l.remove f).inFlight.map InFlight.frame = l.inFlight.map InFlight.frame := by
  rw [LineController.remove, Option.map_map]
  congr 1
  funext i
  simp only [Function.comp]
  split <;> rfl

theorem LineController.queueTrip_keeps (l : LineController) :
    l.queueTrip.state = l.state ∧ l.queueTrip.inFlight.map InFlight.frame = l.inFlight.map InFlight.frame := by
  unfold LineController.queueTrip
  split
  · rw [LineController.add_state, LineController.add_inFlight]
    exact ⟨rfl, l.remove_inFlight_frame .clear⟩
  · exact ⟨rfl, rfl⟩

theorem LineController.queueTrip_outgoing {l : LineController} (h : l.takesRequests = true) :
    .trip ∈ l.queueTrip.outgoing ∧ .clear ∉ l.queueTrip.outgoing ∧
      (l.outgoing.count .trip ≤ 1 → l.queueTrip.outgoing.count .trip = 1) := by
  rw [LineController.queueTrip, if_pos h]
  refine ⟨(LineController.mem_add _ _ _).mpr (.inr rfl), fun hmem => ?_, fun hcount => ?_⟩
  · rcases (LineController.mem_add _ _ _).mp hmem with hmem | heq
    · exact ((LineController.mem_remove _ _ _).mp hmem).2 rfl
    · exact OutFrame.noConfusion heq
  · refine LineController.count_add_same ?_
    rwa [LineController.count_remove_other (by decide)]

/-! ## The taking of a cause (R154, R156, R162) -/

theorem State.latched_untouched (c : Cause) (s : State) : Untouched [.line, .trip] s (s.latched c) := by
  intro x hx
  cases x <;> simp_all [Block.same] <;> rfl

theorem State.latched_line_local (h : isSiding c = false) (s : State) : (s.latched c).line = s.line := by
  rw [State.latched_of_local h]
  rfl

theorem State.latched_line_siding (h : isSiding c = true) (s : State) : (s.latched c).line = s.line.queueTrip := by
  simp [State.latched, h]

theorem State.latched_trip_latched (c : Cause) (s : State) : (s.latched c).trip.latched = latchInto c s.trip.latched := by
  show (TripUnit.latch s.loader.ownAddress c s.trip).latched = _
  unfold TripUnit.latch
  cases isSiding c <;> rfl

theorem State.latched_trip_siding (h : isSiding c = true) (s : State) : (s.latched c).trip = {
    latched := latchInto c s.trip.latched, outstanding := true
    list := setEntry s.loader.ownAddress (.known (s.latched c).trip.sidingSet) s.trip.list } := by
  have hset : (s.latched c).trip.sidingSet =
      ({ s.trip with latched := latchInto c s.trip.latched } : TripUnit).sidingSet := by
    unfold TripUnit.sidingSet
    rw [State.latched_trip_latched]
  rw [hset]
  show TripUnit.latch s.loader.ownAddress c s.trip = _
  simp [TripUnit.latch, h]

theorem TripUnit.sidingSet_eq (u : TripUnit) : u.sidingSet =
    ⟨decide (.esd ∈ u.latched), decide (.gas ∈ u.latched), decide (.brk ∈ u.latched), decide (.drift ∈ u.latched)⟩ := by
  simp [TripUnit.sidingSet]

/-- R156: trip-outstanding says that the own entry is in the list. -/
theorem TripUnit.Agrees.own_entry {own : Nat} {u : TripUnit} (h : u.Agrees own) :
    u.list.any (fun e => decide (e.originator = own)) = u.outstanding := by
  obtain ⟨_, _, _, _, _, hfilter⟩ := h
  have hany : u.list.any (fun e => decide (e.originator = own)) =
      !(u.list.filter (fun e => e.originator == own)).isEmpty := by
    rw [Bool.eq_iff_iff]
    simp
  rw [hany, hfilter]
  cases u.outstanding <;> rfl

theorem TripUnit.Agrees.unknown_not_latched {own : Nat} {u : TripUnit} (h : u.Agrees own) : .unknown ∉ u.latched := by
  obtain ⟨_, hlatched, _⟩ := h
  rw [hlatched]
  intro hmem
  exact mem_latchable.mp (List.mem_filter.mp hmem).1 rfl

theorem isSiding_iff (c : Cause) : isSiding c = true ↔ c = .esd ∨ c = .gas ∨ c = .brk ∨ c = .drift := by
  cases c <;> simp [isSiding]

/-- R37, R113: the entry, where one is made, queues or asks for an ANNOUNCE at most. -/
theorem State.latch_new_line (hoff : s.seq.phase ≠ .offline) (hnew : s.trip.latched.contains c = false) :
    (s.latch c).line.state = (s.latched c).line.state ∧ (s.latch c).line.inFlight = (s.latched c).line.inFlight ∧
      ∀ f, f ≠ OutFrame.announce → (s.latch c).line.outgoing.count f = (s.latched c).line.outgoing.count f := by
  rw [State.latch_new hoff hnew]
  by_cases ht : s.seq.phase = .tripped
  · rw [State.tripEntry_of_tripped (s := s.latched c) _ _ (.inr ht)]
    exact ⟨rfl, rfl, fun _ _ => rfl⟩
  · have hentered := State.tripEntry_entered (s := s.latched c) c s.loader.ownAddress hoff ht
    rcases hentered.line with h | h | h <;> rw [h]
    · exact ⟨rfl, rfl, fun _ _ => rfl⟩
    · exact ⟨LineController.add_state _ _, LineController.add_inFlight _ _,
        fun f hf => LineController.count_add_other hf.symm _⟩
    · exact ⟨rfl, rfl, fun _ _ => rfl⟩

theorem mem_iff_of_count {f : OutFrame} {l m : List OutFrame} (h : l.count f = m.count f) : f ∈ l ↔ f ∈ m := by
  rw [← List.count_pos_iff, h, List.count_pos_iff]

/-- R154, R156: the blocks that a new cause leaves, whether an entry is made or not. -/
theorem State.latch_new_trip (hoff : s.seq.phase ≠ .offline) (hnew : s.trip.latched.contains c = false) :
    (s.latch c).trip = (s.latched c).trip := by
  rw [State.latch_new hoff hnew, State.tripEntry_trip]

/-- R158: the own entry is set at its place or at the end. -/
theorem State.latched_list (hagrees : TripsAgree s) (hsiding : isSiding c = true) :
    (s.latched c).trip.list = (if s.trip.outstanding = true then
      s.trip.list.map (fun e => if e.originator = s.loader.ownAddress then
        ⟨s.loader.ownAddress, .known (s.latched c).trip.sidingSet⟩ else e)
      else s.trip.list ++ [⟨s.loader.ownAddress, .known (s.latched c).trip.sidingSet⟩]) := by
  obtain ⟨_, hown, _⟩ := (tripsAgree_iff s).mp hagrees
  refine (congrArg TripUnit.list (State.latched_trip_siding hsiding s)).trans ?_
  show setEntry _ _ _ = _
  rw [setEntry_eq, hown.own_entry]

/-- Settles O45: the reports by membership; a cause latched before; a new one by its scope and by the phase. -/
theorem reportedCausesLatch : Obligations.ReportedCausesLatch := by
  intro s c hagrees hoff hc t own lost sensors siding entry
  obtain ⟨_, hown, _⟩ := (tripsAgree_iff s).mp hagrees
  have ht : t = s.latch c := rfl
  refine ⟨mem_tripReports_esd s, mem_tripReports_gas s, fun r => ?_, fun r => ?_, fun hold => ?_, fun hfresh => ?_⟩
  · rw [mem_sensorReports hoff, State.sensorFailed_iff]
  · rw [mem_supervisionReports, mem_lossReports, State.armsCoupled_false, State.groundOk, Debouncer.not_isActive_iff]
  · exact State.latch_old (by simpa using hold)
  have hnew : s.trip.latched.contains c = false := by simpa using hfresh
  have htrip : t.trip = (s.latched c).trip := State.latch_new_trip hoff hnew
  obtain ⟨hstate, hflight, hcount⟩ := State.latch_new_line hoff hnew
  have hkeeps := s.line.queueTrip_keeps
  have hentered : s.seq.phase ≠ .tripped → TripEntered c own (s.latched c) t := fun hp => by
    rw [ht, State.latch_new hoff hnew]
    exact State.tripEntry_entered (s := s.latched c) c own hoff hp
  have hline : (s.latched c).line.state = s.line.state ∧
      (s.latched c).line.inFlight.map InFlight.frame = s.line.inFlight.map InFlight.frame := by
    cases hs : isSiding c with
    | true => rw [State.latched_line_siding hs]; exact hkeeps
    | false => rw [State.latched_line_local hs]; exact ⟨rfl, rfl⟩
  refine ⟨fun d => ?_, State.latch_loader s c, State.latch_input s c, State.latch_peers s c, hstate.trans hline.1,
    (congrArg _ hflight).trans hline.2, fun hs => ?_, fun hs => ?_, fun hp => ?_, fun hp => ?_⟩
  · rw [htrip, State.latched_trip_latched, mem_latchInto]
    refine and_iff_right_of_imp ?_
    rintro (rfl | hd)
    · exact mem_latchable.mp hc
    · rintro rfl
      exact hown.unknown_not_latched hd
  · have hsiding := (isSiding_iff c).mpr hs
    refine ⟨by rw [htrip, State.latched_trip_siding hsiding], ?_, fun hreq => ?_⟩
    · rw [htrip, State.latched_list hagrees hsiding, ← htrip, TripUnit.sidingSet_eq]
    · obtain ⟨hin, hout, hone⟩ := LineController.queueTrip_outgoing hreq
      rw [← State.latched_line_siding hsiding] at hin hout hone
      exact ⟨(mem_iff_of_count (hcount _ (by decide))).mpr hin,
        fun h => hout ((mem_iff_of_count (hcount _ (by decide))).mp h), fun h => (hcount _ (by decide)).trans (hone h)⟩
  · have hlocal : isSiding c = false := by
      cases hsiding : isSiding c with
      | true => exact absurd ((isSiding_iff c).mp hsiding) hs
      | false => rfl
    rw [htrip, State.latched_of_local hlocal]
    rw [State.latched_line_local hlocal] at hcount
    exact ⟨rfl, rfl, mem_iff_of_count (hcount _ (by decide)), mem_iff_of_count (hcount _ (by decide))⟩
  · rw [ht, State.latch_new hoff hnew, State.tripEntry_of_tripped (s := s.latched c) _ _ (.inr hp)]
    exact ⟨rfl, rfl, rfl, rfl, rfl⟩
  · have h := hentered hp
    have hseq := h.seq
    refine ⟨h.phase, h.tempCode, h.drives, by rw [hseq], by rw [hseq], by rw [hseq], by rw [hseq], by rw [hseq], ?_, ?_⟩
    · intro hstand
      obtain ⟨hcurrent, hstore, hheld⟩ := h.stands hstand
      rw [Nat.mul_comm] at hcurrent
      refine ⟨hcurrent, hstore, hheld.trans ?_⟩
      show heldAtTrip s.seq.phase s.seq.held = _
      cases s.seq.phase <;> rfl
    · intro ha k hk
      exact h.closes ha k (by rw [Nat.mul_comm]; exact hk)

end Sys2Proof.Machine
end


section
/-!
PROOFS. RESET in "TRIPPED" (O47).
-/

namespace Sys2Proof.Machine

open Sys2Proof

variable {s t : State}

/-! ## The causes that remain (R163) -/

theorem Debouncer.decide_not_active (d : Debouncer) : decide (d.stable ≠ .active) = !d.isActive := by
  rw [Bool.eq_iff_iff, Bool.not_eq_true', Debouncer.not_isActive_iff, decide_eq_true_eq]

theorem State.sensors_good (s : State) : sixAll (fun r => decide (r.status ≠ .fail)) s.input.sensors = !s.sensorFailed := by
  have hstatus : ∀ r : Sensor, decide (r.status ≠ .fail) = !(r.status == .fail) := fun r => by
    cases r.status <;> rfl
  simp only [State.sensorFailed, sixAll, sixAny, hstatus, Bool.not_or]

theorem causeNumber_injective {c d : Cause} (h : causeNumber c = causeNumber d) : c = d := by
  cases c <;> cases d <;> first | rfl | exact absurd h (by decide)

/-- The latched causes stand in the order of their numbers (assumption 17). -/
theorem TripUnit.Agrees.latched_rising {own : Nat} {u : TripUnit} (h : u.Agrees own) :
    u.latched.Pairwise (fun c d => causeNumber c < causeNumber d) := by
  obtain ⟨_, hlatched, _⟩ := h
  rw [hlatched]
  exact List.Pairwise.filter _ (by decide)

/-- In a list in the order of the numbers, the first cause that does not clear is the lowest-numbered one. -/
theorem find?_lowest {l : List Cause} (hl : l.Pairwise (fun c d => causeNumber c < causeNumber d)) {p : Cause → Bool}
    {c : Cause} (hc : c ∈ l) (hp : p c = true) (hmin : ∀ d ∈ l, p d = true → causeNumber c ≤ causeNumber d) :
    l.find? p = some c := by
  cases hfind : l.find? p with
  | none => exact absurd hp (List.find?_eq_none.mp hfind c hc)
  | some d =>
    obtain ⟨hd, before, after, rfl, hbefore⟩ := List.find?_eq_some_iff_append.mp hfind
    have hle : causeNumber c ≤ causeNumber d := hmin d (by simp) hd
    rcases List.mem_append.mp hc with hc | hc
    · exact absurd hp (by simpa using hbefore c hc)
    · rcases List.mem_cons.mp hc with rfl | hc
      · rfl
      · have hlt := (List.pairwise_cons.mp (List.pairwise_append.mp hl).2.1).1 c hc
        exact absurd hle (Nat.not_le.mpr hlt)

theorem State.remaining_of_cause {c : Cause} (h : s.trip.latched.find? (fun c => !s.clears c) = some c) :
    s.remaining = some c := by
  rw [State.remaining, h]

theorem State.remaining_of_clear (h : s.trip.latched.all s.clears = true) :
    s.remaining = s.firstRemote.map (fun e => e.causes.first) := by
  have hnone : s.trip.latched.find? (fun c => !s.clears c) = none := by simpa using h
  rw [State.remaining, hnone]

theorem State.firstRemote_eq (s : State) : s.firstRemote =
    (s.trip.list.filter (fun e => decide (e.originator ≠ s.loader.ownAddress))).head? := by
  rw [List.head?_filter, State.firstRemote]
  congr 1
  funext e
  rw [Bool.eq_iff_iff, bne_iff_ne, decide_eq_true_eq]

/-! ## A RESET press (R39, R163, R164) -/

theorem State.panelWork_tripped (hp : s.seq.phase = .tripped) (p : PanelReports) :
    s.panelWork p = (if p.reset then s.resetPress else if p.longPress then s.longPress else s, false) := by
  rw [State.panelWork, hp]

theorem State.resetPress_uncoupled (hopen : s.ticketOpen = true) (harms : s.armsCoupled = false) :
    s.resetPress = s.setTempCode .e9 := by
  simp [State.resetPress, hopen, harms]

theorem State.resetPress_refused {c : Cause} (h : s.ticketOpen = false ∨ s.armsCoupled = true)
    (hremains : s.remaining = some c) : s.resetPress = s.setTempCode (causeCode c) := by
  rw [State.resetPress, if_neg (by rcases h with h | h <;> simp [h]), hremains]

theorem State.resetPress_taken (h : s.ticketOpen = false ∨ s.armsCoupled = true) (hremains : s.remaining = none) :
    s.resetPress = s.clearTrips.leaveTripped := by
  rw [State.resetPress, if_neg (by rcases h with h | h <;> simp [h]), hremains]

theorem State.clearTrips_untouched (s : State) : Untouched [.line, .trip] s s.clearTrips := by
  rw [State.clearTrips_eq]
  intro b hb
  cases b <;> simp_all [Block.same]

theorem State.leaveTripped_untouched (s : State) :
    Untouched [.input, .seq, .det, .valve, .line, .share, .ticket] s s.leaveTripped := by
  unfold State.leaveTripped
  split
  · exact (s.enterHold_untouched _ _).weaken (by decide)
  · exact s.enterIdle_untouched

theorem State.leaveTripped_open (h : s.ticketOpen = true) : s.leaveTripped = s.enterHold s.seq.held .trip := if_pos h

theorem State.leaveTripped_closed (h : s.ticketOpen = false) : s.leaveTripped = s.enterIdle := by
  simp [State.leaveTripped, h]

/-- R113: a phase change leaves every frame but an ANNOUNCE where it is. -/
theorem State.mem_enterPhase_outgoing {f : OutFrame} (hf : f ≠ .announce) (p : Phase) (s : State) :
    f ∈ (s.enterPhase p).line.outgoing ↔ f ∈ s.line.outgoing := by
  rcases s.enterPhase_line p with h | h | h <;> rw [h]
  rw [LineController.mem_add]
  exact or_iff_left hf

theorem State.mem_leaveTripped_outgoing {f : OutFrame} (hf : f ≠ .announce) (s : State) :
    f ∈ s.leaveTripped.line.outgoing ↔ f ∈ s.line.outgoing := by
  unfold State.leaveTripped
  split
  · exact State.mem_enterPhase_outgoing hf .hold _
  · exact State.mem_enterPhase_outgoing hf .idle _

theorem LineController.queueClear_outgoing {l : LineController} (h : l.takesRequests = true) :
    .clear ∈ l.queueClear.outgoing ∧ .trip ∉ l.queueClear.outgoing := by
  rw [LineController.queueClear, if_pos h]
  refine ⟨(LineController.mem_add _ _ _).mpr (.inr rfl), fun hmem => ?_⟩
  rcases (LineController.mem_add _ _ _).mp hmem with hmem | heq
  · exact ((LineController.mem_remove _ _ _).mp hmem).2 rfl
  · exact OutFrame.noConfusion heq

theorem State.longPress_untouched (s : State) : Untouched [.trip] s s.longPress := by
  intro b hb
  cases b <;> simp_all [Block.same] <;> rfl

theorem State.clearTrips_line (h : s.ownEntry = true) : s.clearTrips.line = s.line.queueClear := by
  rw [State.clearTrips_eq, State.onTrip_line, State.onLine_line, if_pos h]

/-- R163: with no cause remaining, every entry is the own one. -/
theorem State.ownEntry_of_remaining (h : s.remaining = none) (hlist : s.trip.list ≠ []) : s.ownEntry = true := by
  obtain ⟨e, he⟩ := List.exists_mem_of_ne_nil _ hlist
  exact List.any_eq_true.mpr ⟨e, he, beq_iff_eq.mpr ((State.remaining_none h).2 e he)⟩

/-- R165: the entries that a long press leaves. -/
theorem not_originatorSilent_iff (ps : List Peer) (a : Nat) :
    originatorSilent ps a = false ↔ ∃ r, findPeer ps a = some r ∧ r.liveness ≠ .lapsed := by
  unfold originatorSilent
  cases findPeer ps a <;> simp

/-- Settles O47: a refusal for the arms, for the lowest-numbered cause that remains and for the first remote entry; a taken
RESET with a ticket open or closed; a long press. -/
theorem resetPressIsJudged : Obligations.ResetPressIsJudged := by
  intro s p hagrees hphase cleared shows remotes
  obtain ⟨_, hown, _⟩ := (tripsAgree_iff s).mp hagrees
  have hcleared : cleared = s.clears := by
    funext c
    cases c
    case esd => exact s.input.debounce.esd.decide_not_active
    case gas => exact s.input.debounce.gasAlarm.decide_not_active
    case sensor => exact s.sensors_good
    all_goals rfl
  have hremotes : s.firstRemote = remotes.head? := s.firstRemote_eq
  have hwork := State.panelWork_tripped hphase p
  rw [hcleared]
  refine ⟨fun hreset hopen harms => ?_, fun hreset hmay => ?_, fun hreset hlong => ?_⟩
  · rw [hwork, hreset, if_pos rfl, State.resetPress_uncoupled hopen harms]
    rfl
  · refine ⟨fun c hc hclears hmin => ?_, fun hall e rest hrest => ?_, fun hall hnil => ?_⟩
    · have hremains : s.remaining = some c := State.remaining_of_cause
        (find?_lowest hown.latched_rising hc (by simpa using hclears) (fun d hd h => hmin d hd (by simpa using h)))
      rw [hwork, hreset, if_pos rfl, State.resetPress_refused hmay hremains]
      rfl
    · have hremains : s.remaining = some e.causes.first := by
        rw [State.remaining_of_clear hall, hremotes, hrest]
        rfl
      rw [hwork, hreset, if_pos rfl, State.resetPress_refused hmay hremains]
      rfl
    · have hnone : s.remaining = none := by
        rw [State.remaining_of_clear hall, hremotes, hnil]
        rfl
      have hkept := s.clearTrips_untouched
      have hticket : s.clearTrips.ticket = s.ticket := hkept .ticket (by decide)
      have hseq : s.clearTrips.seq = s.seq := hkept .seq (by decide)
      have hopen : s.clearTrips.ticketOpen = s.ticketOpen := congrArg (fun u => u.current.isSome) hticket
      have htrip : s.clearTrips.leaveTripped.trip = .reset := by
        rw [s.clearTrips.leaveTripped_untouched .trip (by decide), State.clearTrips_eq, State.onTrip_trip,
          State.clearedTrips_eq_reset hown hnone]
      rw [hwork, hreset, if_pos rfl, State.resetPress_taken hmay hnone]
      refine ⟨_, rfl, (hkept.weaken (by decide)).trans (s.clearTrips.leaveTripped_untouched.weaken (by decide)),
        by rw [htrip]; rfl, by rw [htrip]; rfl, fun hlist => ⟨by rw [htrip]; rfl, fun hreq => ?_⟩, fun ho => ?_,
        fun ho => ?_⟩
      · rw [State.mem_leaveTripped_outgoing (by decide), State.mem_leaveTripped_outgoing (by decide),
          State.clearTrips_line (State.ownEntry_of_remaining hnone hlist)]
        exact LineController.queueClear_outgoing hreq
      · rw [State.leaveTripped_open (hopen.trans ho)]
        have hinput : s.clearTrips.input = s.input := hkept .input (by decide)
        simp [hticket, hseq, hinput, HoldReason.code]
      · rw [State.leaveTripped_closed (hopen.trans ho)]
        simp [hticket]
  · rw [hwork, hreset, hlong]
    refine ⟨_, rfl, s.longPress_untouched, rfl, List.filter_sublist, fun e => ?_⟩
    rw [← not_originatorSilent_iff]
    simp [State.longPress]

end Sys2Proof.Machine
end


section
/-!
PROOFS. The entries into the phases in full, and the presses and timers that make them (O17 to O20, O25).
-/

namespace Sys2Proof.Machine

open Sys2Proof

variable {s t : State}

/-! ## The valves at a phase change (R81, R82, R93) -/

theorem State.enterPhase_trim (p : Phase) (s : State) : (s.enterPhase p).valve.trim = s.valve.trim := by
  obtain ⟨sv, rv, hv, _⟩ := s.enterPhase_valve p
  rw [hv, ValveDriver.obey_trim]

theorem State.enterPhase_lvCommand (p : Phase) (s : State) :
    (s.enterPhase p).valve.lvCommand = lvWanted p s.seq.drainStep := by
  obtain ⟨sv, rv, hv, _⟩ := s.enterPhase_valve p
  rw [hv, ValveDriver.obey_lvCommand]

theorem State.enterPhase_bvCommand (p : Phase) (s : State) :
    (s.enterPhase p).valve.bvCommand = bvWanted p s.seq.closeStep := by
  obtain ⟨sv, rv, hv, _⟩ := s.enterPhase_valve p
  rw [hv, ValveDriver.obey_bvCommand]

theorem State.enterPhase_svOpening {p : Phase} (hp : p ≠ .push) (s : State) : (s.enterPhase p).valve.svOpening = 0 := by
  obtain ⟨sv, rv, hv, _, _, hsv, _⟩ := s.enterPhase_valve p
  rw [hv, ValveDriver.obey_svOpening, hsv hp, Nat.min_zero]

theorem State.enterPhase_rvOpening {p : Phase} (hp : p ≠ .recover) (s : State) :
    (s.enterPhase p).valve.rvOpening = 0 := by
  obtain ⟨sv, rv, hv, _, _, _, hrv⟩ := s.enterPhase_valve p
  rw [hv, ValveDriver.obey_rvOpening, hrv hp, Nat.min_zero]

theorem State.enterPhase_rvOpening_le (p : Phase) (s : State) :
    (s.enterPhase p).valve.rvOpening ≤ s.valve.rvOpening := by
  obtain ⟨sv, rv, hv, _⟩ := s.enterPhase_valve p
  rw [hv, ValveDriver.obey_rvOpening]
  exact Nat.min_le_left _ _

/-- R143: in a phase that draws on no pool every grant is 0. -/
theorem State.enterPhase_grant {p : Phase} (hp : ∀ q, p.draws q = false) (s : State) (q : Pool) :
    (s.enterPhase p).share.grant.get q = 0 := by
  rw [State.enterPhase_share, ShareUnit.change_grant, hp]
  rfl

/-! ## Entry into "CLOSE" (R31) -/

/-- R89 (2): an opening that falls to 0 has its channel confirmed closed where it was 0 and confirmed closed before. -/
theorem moveChannel_zero_closed (n : Nat) (c : Channel) :
    ((moveChannel n 0 c).state == .closed) = (n == 0 && c.state == .closed) := by
  cases n with
  | zero => simp [moveChannel]
  | succ n => simp [moveChannel]

/-- R89 (1). -/
theorem ValveDriver.commandLv_closed_confirmed (v : ValveDriver) :
    ((v.commandLv .closed).lv.state == .closed) = (v.lvCommand == .closed && v.lv.state == .closed) := by
  cases h : v.lvCommand with
  | opened =>
    rw [ValveDriver.commandLv, if_neg (by rw [h]; decide)]
    rfl
  | closed =>
    rw [ValveDriver.commandLv, if_pos h]
    rfl

/-- R92: closed commands on valves that are all confirmed closed leave them so, and on others do not confirm them. -/
theorem ValveDriver.allClosed_obey_shut (v : ValveDriver) : (v.obey ⟨.closed, .closed, 0, 0⟩).allClosed = v.allClosed := by
  rw [ValveDriver.allClosed, ValveDriver.obey_lvCommand, ValveDriver.obey_svOpening, ValveDriver.obey_rvOpening,
    ValveDriver.obey_lv, ValveDriver.obey_sv, ValveDriver.obey_rv]
  simp only [Nat.min_zero, moveChannel_zero_closed, ValveDriver.commandLv_closed_confirmed, ValveDriver.allClosed,
    beq_self_eq_true, Bool.true_and]
  ac_rfl

/-- What an entry into "CLOSE" leaves. -/
structure CloseEntered (s t : State) : Prop where
  untouched : Untouched [.seq, .det, .valve, .line, .share, .ticket] s t
  seq : t.seq = { s.seq with
    phase := .close, drainTimer := none, recoveryTimer := none, tempCode := none, tempTimer := none
    closeStep := if s.valve.allClosed = true then .bleeding else .shutting
    bleedTimer := if s.valve.allClosed = true then some 0 else none }
  drives : t.drives = ⟨false, 0, 0, s.valve.allClosed⟩
  grant : ∀ q, t.share.grant.get q = 0
  ticket : t.ticket = { s.ticket with meterMarker := false }
  det : t.det = s.det.change s.seq.phase .close
  trim : t.valve.trim = s.valve.trim

section

variable (h : CloseEntered s t)

include h

theorem CloseEntered.phase : t.seq.phase = .close := by rw [h.seq]

theorem CloseEntered.held : t.seq.held = s.seq.held := by rw [h.seq]

theorem CloseEntered.reason : t.seq.reason = s.seq.reason := by rw [h.seq]

theorem CloseEntered.stopped : t.seq.stopped = s.seq.stopped := by rw [h.seq]

theorem CloseEntered.closeStep : t.seq.closeStep = if s.valve.allClosed = true then .bleeding else .shutting := by
  rw [h.seq]

theorem CloseEntered.current : t.ticket.current = s.ticket.current := by rw [h.ticket]

theorem CloseEntered.lvCommand : t.valve.lvCommand = .closed := by
  have hlv : (t.valve.lvCommand == .opened) = false := congrArg DriveOutputs.lv h.drives
  cases hc : t.valve.lvCommand with
  | opened => exact Bool.noConfusion ((show (Drive.opened == Drive.opened) = false by rwa [hc] at hlv))
  | closed => rfl

end

/-- R31: the part as the entry has it at step "SHUTTING". -/
def State.shutting (s : State) : State :=
  (s.onSeq (fun q => { q with
      closeStep := .shutting, bleedTimer := none, drainTimer := none, recoveryTimer := none })).enterPhase .close

theorem State.shutting_seq (s : State) : s.shutting.seq = { s.seq with
    phase := .close, closeStep := .shutting, bleedTimer := none, drainTimer := none, recoveryTimer := none
    tempCode := none, tempTimer := none } := by
  simp [State.shutting]

theorem State.shutting_valve (s : State) : s.shutting.valve = s.valve.obey ⟨.closed, .closed, 0, 0⟩ := by
  obtain ⟨sv, rv, hv, _, _, hsv, hrv⟩ := State.enterPhase_valve (s.onSeq (fun q => { q with
      closeStep := .shutting, bleedTimer := none, drainTimer := none, recoveryTimer := none })) .close
  rw [hsv (by decide), hrv (by decide)] at hv
  exact hv

/-- R31 (1): BV opens where all three valves are confirmed closed. -/
theorem State.endShutting_done (hp : s.seq.phase = .close) (hstep : s.seq.closeStep = .shutting)
    (hclosed : s.valve.allClosed = true) : s.endShutting =
      (s.onSeq (fun q => { q with closeStep := .bleeding, bleedTimer := some 0 })).applyCommands :=
  if_pos ⟨hp, hstep, hclosed⟩

theorem State.endShutting_same (h : s.seq.phase ≠ .close ∨ s.seq.closeStep ≠ .shutting ∨ s.valve.allClosed = false) :
    s.endShutting = s := by
  refine if_neg fun ⟨hp, hstep, hclosed⟩ => ?_
  rcases h with h | h | h
  · exact h hp
  · exact h hstep
  · exact Bool.noConfusion (hclosed.symm.trans h)

theorem ValveDriver.allClosed_shut {v : ValveDriver} (h : v.allClosed = true) :
    v.lvCommand = .closed ∧ v.svOpening = 0 ∧ v.rvOpening = 0 := by
  simp only [ValveDriver.allClosed, Bool.and_eq_true, beq_iff_eq] at h
  obtain ⟨⟨⟨⟨⟨hlv, hsv⟩, hrv⟩, _⟩, _⟩, _⟩ := h
  exact ⟨hlv, hsv, hrv⟩

/-- R81: "BLEEDING" opens BV alone. -/
theorem State.endShutting_drives (hp : s.seq.phase = .close) (hstep : s.seq.closeStep = .shutting)
    (hclosed : s.valve.allClosed = true) : s.endShutting.drives = ⟨false, 0, 0, true⟩ := by
  obtain ⟨_, hsv, hrv⟩ := ValveDriver.allClosed_shut hclosed
  rw [State.endShutting_done hp hstep hclosed, State.drives]
  simp [hsv, hrv, hp, lvWanted, bvWanted]

theorem State.endShutting_trim (s : State) : s.endShutting.valve.trim = s.valve.trim := by
  unfold State.endShutting
  split
  · rw [State.applyCommands_valve, ValveDriver.obey_trim, State.onSeq_valve]
  · rfl

theorem State.enterClose_entered (s : State) : CloseEntered s s.enterClose := by
  have hvalve := s.shutting_valve
  have hseq := s.shutting_seq
  have hclosed : s.shutting.valve.allClosed = s.valve.allClosed := by rw [hvalve, ValveDriver.allClosed_obey_shut]
  have hp : s.shutting.seq.phase = .close := by rw [hseq]
  have hstep : s.shutting.seq.closeStep = .shutting := by rw [hseq]
  have hsame := s.shutting.endShutting_untouched
  have henter : s.enterClose = s.shutting.endShutting := rfl
  refine ⟨s.enterClose_untouched, ?_, ?_, fun q => ?_, s.enterClose_ticket, ?_, ?_⟩
  · rw [henter]
    cases ha : s.valve.allClosed with
    | true =>
      rw [State.endShutting_done hp hstep (hclosed.trans ha), State.applyCommands_seq, State.onSeq_seq, hseq]
      rfl
    | false =>
      rw [State.endShutting_same (.inr (.inr (hclosed.trans ha))), hseq]
      rfl
  · rw [henter]
    cases ha : s.valve.allClosed with
    | true => exact State.endShutting_drives hp hstep (hclosed.trans ha)
    | false =>
      rw [State.endShutting_same (.inr (.inr (hclosed.trans ha))), State.drives, hvalve]
      simp
  · rw [henter, hsame .share (by decide)]
    exact State.enterPhase_grant (fun q => by cases q <;> rfl) _ q
  · rw [henter, hsame .det (by decide)]
    exact State.enterPhase_det _ .close
  · rw [henter, State.endShutting_trim, hvalve, ValveDriver.obey_trim]

/-! ## Entry into "HOLD" (R27, R30, R33) -/

/-- What an entry into "HOLD" leaves. -/
structure HoldEntered (held : Option HeldPhase) (reason : HoldReason) (s t : State) : Prop where
  untouched : Untouched [.seq, .det, .valve, .line, .share, .ticket] s t
  seq : t.seq = { s.seq with
    phase := .hold, held := held, reason := some reason, residual := 0, recoveryTimer := none, tempCode := none
    tempTimer := none }
  drives : t.drives = ⟨false, 0, 0, false⟩
  trim : t.valve.trim = s.valve.trim
  share : t.share = s.share.change s.seq.phase .hold
  det : t.det = s.det.change s.seq.phase .hold
  ticket : t.ticket.current = noted .hold reason.code s.ticket

theorem State.enterHold_entered (held : Option HeldPhase) (reason : HoldReason) (s : State) :
    HoldEntered held reason s (s.enterHold held reason) where
  untouched := s.enterHold_untouched held reason
  seq := s.enterHold_seq held reason
  drives := State.drives_of_shut (State.enterPhase_shut rfl _)
  trim := State.enterPhase_trim .hold _
  share := s.enterHold_share held reason
  det := s.enterHold_det held reason
  ticket := by rw [State.enterHold_ticket]

theorem HoldEntered.grant {held : Option HeldPhase} {reason : HoldReason} (h : HoldEntered held reason s t) (q : Pool) :
    t.share.grant.get q = 0 := by
  rw [h.share, ShareUnit.change_grant]
  cases q <;> rfl

/-! ## The presses (R21, R25, R27, R30, R33, R35) -/

theorem State.panelWork_push (hp : s.seq.phase = .push) (p : PanelReports) :
    s.panelWork p = (if p.stop then s.enterHold (some .push) .operator else s, false) := by
  rw [State.panelWork, hp]

theorem State.panelWork_recover (hp : s.seq.phase = .recover) (p : PanelReports) :
    s.panelWork p = (if p.stop then s.enterHold (some .recover) .operator else s, false) := by
  rw [State.panelWork, hp]

theorem State.panelWork_check (hp : s.seq.phase = .check) (p : PanelReports) :
    s.panelWork p = (if p.stop then s.stopInCheck else s, false) := by
  rw [State.panelWork, hp]

theorem State.panelWork_hold (hp : s.seq.phase = .hold) (p : PanelReports) :
    s.panelWork p = (if p.stop then s.stopInHold else if p.start then s.startInHold else s, false) := by
  rw [State.panelWork, hp]

theorem State.panelWork_idle (hp : s.seq.phase = .idle) (p : PanelReports) :
    s.panelWork p = if p.start && !p.stop then (s.startInIdle, s.startRefusal.isNone) else (s, false) := by
  rw [State.panelWork, hp]

theorem State.panelWork_ignored (hp : s.seq.phase = .drain ∨ s.seq.phase = .close ∨ s.seq.phase = .offline)
    (p : PanelReports) : s.panelWork p = (s, false) := by
  rcases hp with hp | hp | hp <;> rw [State.panelWork, hp]

/-- R21: outside "IDLE", "HOLD" and "TRIPPED" the table has STOP alone. -/
theorem State.panelWork_without_stop (hidle : s.seq.phase ≠ .idle) (hhold : s.seq.phase ≠ .hold)
    (htripped : s.seq.phase ≠ .tripped) {p : PanelReports} (hstop : p.stop = false) : s.panelWork p = (s, false) := by
  cases hp : s.seq.phase
  case idle => exact absurd hp hidle
  case hold => exact absurd hp hhold
  case tripped => exact absurd hp htripped
  case push => simp [State.panelWork_push hp, hstop]
  case recover => simp [State.panelWork_recover hp, hstop]
  case check => simp [State.panelWork_check hp, hstop]
  case drain => exact State.panelWork_ignored (.inl hp) p
  case close => exact State.panelWork_ignored (.inr (.inl hp)) p
  case offline => exact State.panelWork_ignored (.inr (.inr hp)) p

theorem HoldEntered.of_stop {h : HeldPhase} (ht : HoldEntered (some h) .operator s t) :
    Untouched [.seq, .det, .valve, .line, .share, .ticket] s t ∧
      t.seq.phase = .hold ∧ t.seq.reason = some .operator ∧ t.seq.held = some h ∧
      t.seq.residual = 0 ∧ t.seq.recoveryTimer = none ∧ t.seq.stopped = s.seq.stopped ∧
      t.ticket.current = noted .hold 1 s.ticket ∧ t.drives = ⟨false, 0, 0, false⟩ ∧
      t.det.throttle = s.det.throttle ∧ t.valve.trim = s.valve.trim ∧ (∀ q, t.share.grant.get q = 0) := by
  have hseq := ht.seq
  refine ⟨ht.untouched, by rw [hseq], by rw [hseq], by rw [hseq], by rw [hseq], by rw [hseq], by rw [hseq], ht.ticket,
    ht.drives, by rw [ht.det, DetectorUnit.change_throttle], ht.trim, ht.grant⟩

theorem State.stopInHold_entered (s : State) : CloseEntered
    (s.onSeq (fun q => { q with stopped := true, held := none, reason := none })) s.stopInHold :=
  State.enterClose_entered _

theorem untouched_onSeq (f : Sequence → Sequence) (s : State) : Untouched [.seq] s (s.onSeq f) := by
  intro b hb
  cases b <;> simp_all [Block.same]

/-- Settles O18: STOP by the phase that finds it; then the presses that a phase does not look at. -/
theorem pressesActByPhase : Obligations.PressesActByPhase := by
  intro s p
  refine ⟨fun hstop => ⟨fun hp => ?_, fun hp => ?_, fun hp => ?_, fun hp => ?_, fun hp hreset hlong => ?_⟩,
    fun hstop hidle hhold htripped => ?_, fun hstop hstart htripped => ?_, fun htripped reset longPress => ?_,
    fun hp start stop => ?_, fun hp hreset hlong => ?_, fun hstop start => ?_⟩
  · rcases hp with hp | hp
    · rw [State.panelWork_push hp, if_pos hstop, if_pos hp]
      exact ⟨_, rfl, (s.enterHold_entered _ _).of_stop⟩
    · rw [State.panelWork_recover hp, if_pos hstop, if_neg (by rw [hp]; decide)]
      exact ⟨_, rfl, (s.enterHold_entered _ _).of_stop⟩
  · rw [State.panelWork_hold hp, if_pos hstop]
    have h := s.stopInHold_entered
    exact ⟨_, rfl, ((untouched_onSeq _ s).weaken (by decide)).trans h.untouched, h.phase, h.stopped, h.held, h.reason,
      h.closeStep, h.drives, h.current⟩
  · rw [State.panelWork_check hp, if_pos hstop]
    refine ⟨_, rfl, ?_⟩
    simp [State.stopInCheck, CheckUnit.reset]
  · rcases hp with hp | hp
    · simp [State.panelWork_idle hp, hstop]
    · exact State.panelWork_ignored hp p
  · simp [State.panelWork_tripped hp, hreset, hlong]
  · exact State.panelWork_without_stop hidle hhold htripped hstop
  · by_cases hidle : s.seq.phase = .idle
    · simp [State.panelWork_idle hidle, hstart]
    · by_cases hhold : s.seq.phase = .hold
      · simp [State.panelWork_hold hhold, hstop, hstart]
      · exact State.panelWork_without_stop hidle hhold htripped hstop
  · cases hp : s.seq.phase <;> first | exact absurd hp htripped | (rw [State.panelWork, State.panelWork, hp])
  · rw [State.panelWork_tripped hp, State.panelWork_tripped hp]
  · simp [State.panelWork_tripped hp, hreset, hlong]
  · cases hp : s.seq.phase <;> simp [State.panelWork, hp, hstop]

/-! ## START (R22, R23, R34) -/

/-- R34: note RESUME, with the held phase taken. -/
def State.resuming (h : HeldPhase) (s : State) : State :=
  (s.note .resume h.phase.code).onSeq (fun q => { q with held := none, reason := none })

theorem State.startInHold_resumes {h : HeldPhase} (hh : s.seq.held = some h) :
    s.startInHold = (s.resuming h).resumePhase h := by
  rw [State.startInHold, hh]
  rfl

theorem State.resuming_untouched (h : HeldPhase) (s : State) : Untouched [.seq, .ticket] s (s.resuming h) := by
  intro b hb
  cases b <;> simp_all [Block.same, State.resuming]

theorem State.resuming_seq (h : HeldPhase) (s : State) : (s.resuming h).seq = { s.seq with held := none, reason := none } :=
  rfl

theorem State.resuming_ticket (h : HeldPhase) (s : State) :
    (s.resuming h).ticket = { s.ticket with current := noted .resume h.phase.code s.ticket } := by
  simp [State.resuming]

theorem DetectorUnit.change_push (b : Phase) (d : DetectorUnit) : d.change b .push = d := by
  simp [DetectorUnit.change]

theorem ShareUnit.change_starvation (a : Phase) {b : Phase} (hb : b ≠ .push) (u : ShareUnit) :
    (u.change b a).starvation = u.starvation := by
  simp [ShareUnit.change, hb]

/-- R34: what a resumption leaves, whatever phase was held. -/
structure Resumed (h : HeldPhase) (s t : State) : Prop where
  untouched : Untouched [.seq, .det, .valve, .line, .share, .ticket] s t
  phase : t.seq.phase = h.phase
  held : t.seq.held = s.seq.held
  reason : t.seq.reason = s.seq.reason
  stopped : t.seq.stopped = s.seq.stopped
  ticket : t.ticket.current = s.ticket.current
  det : t.det = s.det.change s.seq.phase h.phase
  trim : t.valve.trim = s.valve.trim

theorem State.resumePhase_resumed (h : HeldPhase) (s : State) : Resumed h s (s.resumePhase h) := by
  cases h with
  | push => exact ⟨s.enterPhase_untouched _, by simp [State.resumePhase, HeldPhase.phase], by simp [State.resumePhase],
      by simp [State.resumePhase], by simp [State.resumePhase], by simp [State.resumePhase], s.enterPhase_det _,
      State.enterPhase_trim _ _⟩
  | drain => exact ⟨s.enterDrain_untouched, by simp [State.resumePhase, HeldPhase.phase], by simp [State.resumePhase],
      by simp [State.resumePhase], by simp [State.resumePhase], by simp [State.resumePhase, State.enterDrain],
      State.enterPhase_det _ _, State.enterPhase_trim _ _⟩
  | recover => exact ⟨s.enterRecover_untouched, by simp [State.resumePhase, HeldPhase.phase], by simp [State.resumePhase],
      by simp [State.resumePhase], by simp [State.resumePhase], by simp [State.resumePhase, State.enterRecover],
      State.enterPhase_det _ _, State.enterPhase_trim _ _⟩
  | close =>
    have hclose := s.enterClose_entered
    exact ⟨hclose.untouched, hclose.phase, hclose.held, hclose.reason, hclose.stopped, hclose.current, hclose.det,
      hclose.trim⟩

/-- Settles O19: what every resumption leaves, then the held phase's own steps. -/
theorem startResumesTheHeldPhase : Obligations.StartResumesTheHeldPhase := by
  intro s p h hquiet hp hh hstart hstop
  obtain ⟨hstage, hlow, hconfirm, hstarve⟩ := hquiet (by rw [hp]; decide)
  have hresumed := (s.resuming h).resumePhase_resumed h
  have hphase : (s.resuming h).seq.phase = .hold := hp
  refine ⟨(s.resuming h).resumePhase h, by simp [State.panelWork_hold hp, hstart, hstop, State.startInHold_resumes hh],
    ((s.resuming_untouched h).weaken (by decide)).trans hresumed.untouched, hresumed.phase, hresumed.held,
    hresumed.reason, hresumed.stopped, ?_, ?_, ?_, hresumed.trim, ?_, ?_, ?_, ?_⟩
  · rw [hresumed.ticket, State.resuming_ticket]
    cases h <;> rfl
  · rw [hresumed.det, DetectorUnit.change_throttle]
    rfl
  · rw [hresumed.det, DetectorUnit.change_clearTimer]
    rfl
  · rintro rfl
    exact ⟨by simp [State.resumePhase], by simp [State.resumePhase], State.enterPhase_lvCommand .drain _⟩
  · rintro rfl
    exact ⟨by simp [State.resumePhase], by simp [State.resumePhase], State.enterPhase_lvCommand .recover _⟩
  · rintro rfl
    refine ⟨State.enterPhase_lvCommand .push _, ?_, ?_⟩
    · rw [State.resumePhase, State.enterPhase_share, ShareUnit.change_starvation _ (by rw [hphase]; decide)]
      exact hstarve
    · rw [hresumed.det]
      exact (congrArg (fun d : DetectorUnit => d.stage = .counting ∧ d.lowCount = 0 ∧ d.confirmTimer = none)
        (DetectorUnit.change_push _ _)).mpr ⟨hstage, hlow, hconfirm⟩
  · rintro rfl
    have hclose := (s.resuming .close).enterClose_entered
    exact ⟨hclose.lvCommand, hclose.closeStep⟩

/-! ### START in "IDLE" -/

/-- R22: the seven conditions in their order, each with its code. -/
def State.startConditions (s : State) : List (Bool × Code) := [
  (s.armsCoupled, .na),
  (s.groundOk, .ng),
  (s.trip.list.isEmpty && s.trip.latched.isEmpty && !s.line.outgoing.contains .clear, .nt),
  (s.peers.all (fun r => !(r.cls == .station && r.signature == .mismatch && r.liveness != .lapsed)), .ns),
  (decide (s.ticket.store.length < 4), .nf),
  (sixAll (fun r => r.status != .fail) s.input.sensors, .nc),
  (s.cfg.identityRequired != 1 || !s.input.identity.isEmpty, .ni)]

/-- The code of the first condition that fails. -/
def firstFailing (conditions : List (Bool × Code)) : Option Code :=
  (conditions.find? (fun x => !x.1)).map Prod.snd

theorem firstFailing_cons (b : Bool) (c : Code) (rest : List (Bool × Code)) :
    firstFailing ((b, c) :: rest) = if b = false then some c else firstFailing rest := by
  cases b <;> rfl

theorem State.no_bar_iff (s : State) :
    s.peers.all (fun r => !(r.cls == .station && r.signature == .mismatch && r.liveness != .lapsed)) = false ↔
      s.peers.any Peer.barsStart = true := by
  rw [Bool.eq_false_iff, ne_eq, List.all_eq_true, List.any_eq_true]
  simp [Peer.barsStart]

theorem State.no_failure_iff (s : State) :
    sixAll (fun r => r.status != .fail) s.input.sensors = false ↔ s.sensorFailed = true := by
  have hsensors : sixAll (fun r => r.status != .fail) s.input.sensors = !s.sensorFailed := by
    simp only [State.sensorFailed, sixAll, sixAny, bne, Bool.not_or]
  rw [hsensors, Bool.not_eq_false']

theorem State.startRefusal_eq (s : State) : s.startRefusal = firstFailing s.startConditions := by
  have hclear : (s.trip.list.isEmpty && s.trip.latched.isEmpty && !s.line.outgoing.contains .clear) = false ↔
      (!s.trip.list.isEmpty || !s.trip.latched.isEmpty || s.line.clearWaits) = true := by
    rw [← Bool.not_eq_true', Bool.not_and, Bool.not_and, Bool.not_not]
    rfl
  have hstore : decide (s.ticket.store.length < 4) = false ↔ 4 ≤ s.ticket.store.length := by
    rw [decide_eq_false_iff_not, Nat.not_lt]
  have hidentity : (s.cfg.identityRequired != 1 || !s.input.identity.isEmpty) = false ↔
      s.cfg.identityRequired = 1 ∧ s.input.identity = [] := by
    simp
  simp only [State.startConditions, firstFailing_cons, State.startRefusal, Bool.not_eq_true', hclear, State.no_bar_iff,
    hstore, State.no_failure_iff, hidentity]
  rfl

/-- Settles O17: the first failing condition names the code; with none, a fresh check begins. -/
theorem startIsJudgedInOrder : Obligations.StartIsJudgedInOrder := by
  intro s p hp hstart hstop conditions
  have hwork : s.panelWork p = (s.startInIdle, s.startRefusal.isNone) := by
    simp [State.panelWork_idle hp, hstart, hstop]
  have hrefusal : s.startRefusal = (conditions.find? (fun x => !x.1)).map Prod.snd := s.startRefusal_eq
  refine ⟨fun c hc => ?_, fun hnone => ?_⟩
  · rw [hc] at hrefusal
    rw [hwork, State.startInIdle, hrefusal]
    rfl
  · rw [hnone] at hrefusal
    refine ⟨s.beginCheck.enterPhase .check, by rw [hwork, State.startInIdle, hrefusal]; rfl, ?_, ?_, ?_,
      State.drives_of_shut (State.enterPhase_shut rfl _), by simp [State.beginCheck]⟩
    · intro b hb
      cases b <;> simp_all [Block.same, State.beginCheck]
    · simp [State.beginCheck]
    · rw [State.enterPhase_check]
      rfl

end Sys2Proof.Machine
end


section
/-!
PROOFS. The timers of the sequence and its works at a sample event (O20, O25).
-/

namespace Sys2Proof.Machine

open Sys2Proof

variable {s b t : State}

/-! ## Steps that shut the valves (R28, R31) -/

/-- R81, R82: closed commands put every drive off. -/
theorem State.applyCommands_shut (hlv : lvWanted s.seq.phase s.seq.drainStep = .closed)
    (hbv : bvWanted s.seq.phase s.seq.closeStep = .closed) (hp : s.seq.phase ≠ .push) (hr : s.seq.phase ≠ .recover) :
    s.applyCommands.valve = s.valve.obey ⟨.closed, .closed, 0, 0⟩ := by
  rw [State.applyCommands_valve, State.wanted_elsewhere s hp hr, hlv, hbv]

theorem drives_of_obey_shut {v : ValveDriver} (h : t.valve = v.obey ⟨.closed, .closed, 0, 0⟩) :
    t.drives = ⟨false, 0, 0, false⟩ :=
  State.drives_of_shut (h ▸ v.shut_obey)

/-- R88, R89 (1): LV at a closed command. -/
theorem ValveDriver.obey_shut_lv (v : ValveDriver) : (v.obey ⟨.closed, .closed, 0, 0⟩).lv =
    if v.lvCommand = .opened then ⟨.closing, some 0⟩ else v.lv := by
  rw [ValveDriver.obey_lv]
  cases h : v.lvCommand with
  | opened => rw [ValveDriver.commandLv, if_neg (by rw [h]; decide), if_pos rfl]
  | closed => rw [ValveDriver.commandLv, if_pos h, if_neg (by decide)]

/-- R28 (1): step "SHUTTING" of "DRAIN". -/
def State.drainShuts (s : State) : State :=
  (s.onSeq (fun q => { q with drainStep := .shutting, drainTimer := none })).applyCommands

theorem State.drainShuts_valve (hp : s.seq.phase = .drain) :
    s.drainShuts.valve = s.valve.obey ⟨.closed, .closed, 0, 0⟩ :=
  State.applyCommands_shut (by rw [State.onSeq_seq]; simp [hp, lvWanted]) (by rw [State.onSeq_seq]; simp [hp, bvWanted])
    (by simp [hp]) (by simp [hp])

/-- R31 (2): step "RELEASING". -/
def State.bleedEnds (s : State) : State :=
  (s.onSeq (fun q => { q with closeStep := .releasing, bleedTimer := none })).applyCommands

theorem State.bleedEnds_valve (hp : s.seq.phase = .close) :
    s.bleedEnds.valve = s.valve.obey ⟨.closed, .closed, 0, 0⟩ :=
  State.applyCommands_shut (by rw [State.onSeq_seq]; simp [hp, lvWanted]) (by rw [State.onSeq_seq]; simp [hp, bvWanted])
    (by simp [hp]) (by simp [hp])

theorem untouched_step (f : Sequence → Sequence) (s : State) : Untouched [.seq, .valve] s (s.onSeq f).applyCommands := by
  intro x hx
  cases x <;> simp_all [Block.same]

/-! ## "RELEASING" ends (R31, R32, R38) -/

theorem State.endReleasing_same (h : s.armsUncoupled = false ∨ s.seq.phase ≠ .close ∨ s.seq.closeStep ≠ .releasing) :
    s.endReleasing = s := by
  refine if_neg fun ⟨hp, hstep, ha⟩ => ?_
  rcases h with h | h | h
  · exact Bool.noConfusion (ha.symm.trans h)
  · exact h hp
  · exact h hstep

theorem State.endReleasing_done (hp : s.seq.phase = .close) (hstep : s.seq.closeStep = .releasing)
    (ha : s.armsUncoupled = true) :
    s.endReleasing = ((s.closeTicket (if s.seq.stopped then .stopped else .complete)).dropBaseline).enterIdle :=
  if_pos ⟨hp, hstep, ha⟩

theorem State.closeUncoupled_same (h : s.armsUncoupled = false ∨ s.seq.phase ≠ .tripped ∨ s.ticketOpen = false) :
    s.closeUncoupled = s := by
  refine if_neg fun ⟨hp, ho, ha⟩ => ?_
  rcases h with h | h | h
  · exact Bool.noConfusion (ha.symm.trans h)
  · exact h hp
  · exact Bool.noConfusion (ho.symm.trans h)

theorem State.closeUncoupled_done (hp : s.seq.phase = .tripped) (ho : s.ticketOpen = true) (ha : s.armsUncoupled = true) :
    s.closeUncoupled = s.closedTripped := if_pos ⟨hp, ho, ha⟩

/-- What the end of "RELEASING" leaves of the part before it. -/
structure Released (k : Ticket) (s t : State) : Prop where
  phase : t.seq.phase = .idle
  drives : t.drives = ⟨false, 0, 0, false⟩
  baseline : t.check.baseline = none
  identity : t.input.identity = []
  trip : t.trip = s.trip
  peers : t.peers = s.peers
  loader : t.loader = s.loader
  current : t.ticket.current = none
  store : t.ticket.store = s.ticket.store ++ [{ k with
    closeTime := some s.ticket.uptime, finalThrottle := some s.det.throttle
    endReason := some (if s.seq.stopped = true then .stopped else .complete) }]

theorem State.endReleasing_released {k : Ticket} (hp : s.seq.phase = .close) (hstep : s.seq.closeStep = .releasing)
    (ha : s.armsUncoupled = true) (hk : s.ticket.current = some k) : Released k s s.endReleasing := by
  rw [State.endReleasing_done hp hstep ha]
  have hticket := s.closeTicket_some (if s.seq.stopped then .stopped else .complete) k hk
  exact {
    phase := by simp
    drives := State.drives_of_shut (State.enterIdle_shut _)
    baseline := by simp
    identity := by simp
    trip := by simp
    peers := by simp
    loader := by simp
    current := by rw [State.enterIdle_ticket, State.dropBaseline_ticket, hticket]
    store := by rw [State.enterIdle_ticket, State.dropBaseline_ticket, hticket] }

/-- R38: the part after the ticket closed in "TRIPPED". -/
theorem State.closedTripped_eq {k : Ticket} (hk : s.ticket.current = some k) : s.closedTripped = { s with
    seq := { s.seq with held := none, stopped := false }
    check := { s.check with baseline := none }
    det := { s.det with driftCount := 0 }
    ticket := { s.ticket with
      current := none
      store := s.ticket.store ++ [{ k with
        closeTime := some s.ticket.uptime, finalThrottle := some s.det.throttle, endReason := some .tripped }] } } := by
  have hticket := s.closeTicket_some .tripped k hk
  rw [State.closedTripped, State.closeTicket] at *
  rw [← hticket]
  rfl

/-! ## Settling O20 -/

theorem CloseEntered.of_base (hb : Untouched [.seq, .ticket] s b) (h : CloseEntered b t) :
    Untouched [.seq, .det, .valve, .line, .share, .ticket] s t ∧ t.seq.phase = .close ∧
      t.seq.stopped = b.seq.stopped ∧ t.seq.drainTimer = none ∧ t.seq.recoveryTimer = none ∧
      t.seq.closeStep = (if s.valve.allClosed = true then .bleeding else .shutting) ∧
      t.seq.bleedTimer = (if s.valve.allClosed = true then some 0 else none) ∧
      t.drives = ⟨false, 0, 0, s.valve.allClosed⟩ ∧ (∀ q, t.share.grant.get q = 0) := by
  have hvalve : b.valve = s.valve := hb .valve (by decide)
  rw [← hvalve]
  refine ⟨(hb.weaken (by decide)).trans h.untouched, h.phase, h.stopped, by rw [h.seq], by rw [h.seq], h.closeStep,
    by rw [h.seq], h.drives, h.grant⟩

theorem untouched_refl (l : List Block) (s : State) : Untouched l s s := by
  intro x _
  cases x <;> rfl

/-- R29: the residual count below its limit. -/
theorem State.residualWork_low (hp : s.seq.phase = .recover) (hlow : s.input.sensors.pCar.value ≤ (s.cfg.pRes : Int)) :
    s.residualWork = if s.seq.residual + 1 < 5 then s.onSeq (fun q => { q with residual := q.residual + 1 })
      else ((s.onSeq (fun q => { q with residual := 5 })).note .empty 1).enterClose := by
  rw [State.residualWork, if_pos hp, if_pos (show s.pCar ≤ _ from hlow)]

theorem State.residualWork_high (hp : s.seq.phase = .recover) (hlow : ¬ s.input.sensors.pCar.value ≤ (s.cfg.pRes : Int)) :
    s.residualWork = s.onSeq (fun q => { q with residual := 0 }) := by
  rw [State.residualWork, if_pos hp, if_neg (show ¬ s.pCar ≤ _ from hlow)]

/-- Settles O20: the four expiries, the residual count, the confirmed valves, and the arms. -/
theorem sequenceAdvancesAtTimersAndSamples : Obligations.SequenceAdvancesAtTimersAndSamples := by
  intro s n closes releases low
  refine ⟨fun hp ht hn => ?_, fun hp ht hn => ?_, fun ht hn => ?_, fun hp ht hn => ⟨fun ha => ?_, fun ha k hk => ?_⟩,
    fun hp => ⟨fun hlow hc => ?_, fun hlow hc => ?_, fun hlow => ?_⟩, fun hp => if_neg hp, fun hp hstep => ?_, fun h => ?_,
    fun hp hstep hclosed => ?_, State.endShutting_same, fun k hk ha => ⟨fun hp hstep => ?_, fun hp => ?_⟩, fun h => ?_⟩
  · have hvalve := State.drainShuts_valve hp
    refine ⟨s.drainShuts, congrArg Host.Outcome.next (if_pos ⟨hp, (reached_iff _ _).mpr ⟨n, ht, hn⟩⟩), untouched_step _ s,
      rfl, drives_of_obey_shut hvalve, ?_⟩
    rw [hvalve, ValveDriver.obey_shut_lv]
  · have hclose := State.enterClose_entered (s.note .empty 2)
    refine ⟨_, congrArg Host.Outcome.next (if_pos ⟨hp, (reached_iff _ _).mpr ⟨n, ht, hn⟩⟩),
      CloseEntered.of_base (b := s.note .empty 2) ((s.note_untouched .empty 2).weaken (by decide)) hclose, ?_⟩
    rw [hclose.current, State.note_ticket]
  · exact congrArg Host.Outcome.next (if_pos ((reached_iff _ _).mpr ⟨n, ht, hn⟩))
  · refine ⟨s.bleedEnds, ?_, untouched_step _ s, rfl, drives_of_obey_shut (State.bleedEnds_valve hp)⟩
    refine congrArg Host.Outcome.next ((if_pos ⟨hp, (reached_iff _ _).mpr ⟨n, ht, hn⟩⟩).trans ?_)
    exact State.endReleasing_same (s := s.bleedEnds) (.inl ha)
  · have h := State.endReleasing_released (s := s.bleedEnds) hp rfl ha hk
    exact ⟨_, congrArg Host.Outcome.next (if_pos ⟨hp, (reached_iff _ _).mpr ⟨n, ht, hn⟩⟩), h.phase, h.drives, h.baseline,
      h.identity, h.trip, h.peers, h.loader, h.current, h.store⟩
  · rw [State.residualWork_low hp hlow, if_pos (by omega)]
    rfl
  · have hclose := State.enterClose_entered ((s.onSeq (fun q => { q with residual := 5 })).note .empty 1)
    have hbase : Untouched [.seq, .ticket] s ((s.onSeq (fun q => { q with residual := 5 })).note .empty 1) :=
      ((untouched_onSeq _ s).weaken (by decide)).trans ((State.note_untouched _ .empty 1).weaken (by decide))
    rw [State.residualWork_low hp hlow, if_neg (by omega)]
    refine ⟨CloseEntered.of_base (b := (s.onSeq (fun q => { q with residual := 5 })).note .empty 1) hbase hclose, ?_, ?_⟩
    · rw [hclose.current, State.note_ticket]
      rfl
    · rw [hclose.seq]
      rfl
  · rw [State.residualWork_high hp hlow]
    rfl
  · have ht : s.takeReport .lvClosed = s.endDrain := if_pos ⟨hp, hstep⟩
    rw [ht]
    refine ⟨?_, fun hret => ?_, fun hret => ?_⟩
    · unfold State.endDrain
      split <;> simp [State.enterRecover]
    · have hdrain : s.endDrain = s.enterClose := if_neg (by omega)
      rw [hdrain]
      exact s.enterClose_entered.of_base (untouched_refl _ s)
    · have hdrain : s.endDrain = s.enterRecover := if_pos hret
      rw [hdrain]
      have hlv : s.enterRecover.valve.lvCommand = .closed := State.enterPhase_lvCommand .recover _
      have hbv : s.enterRecover.valve.bvCommand = .closed := State.enterPhase_bvCommand .recover _
      refine ⟨s.enterRecover_untouched, by simp, by simp, by simp, by simp, ?_, State.enterPhase_svOpening (by decide) _,
        ?_, State.enterPhase_rvOpening_le .recover _, ?_, ?_⟩
      · rw [State.drives, hlv]
        rfl
      · rw [State.drives, hbv]
        rfl
      · rw [State.enterRecover, State.enterPhase_share]
        rfl
      · rw [State.enterRecover, State.enterPhase_share]
        rfl
  · refine if_neg fun ⟨hp, hstep⟩ => ?_
    rcases h with h | h
    · exact h hp
    · exact h hstep
  · have ht : s.takeReport .allClosed = s.endShutting := rfl
    rw [ht]
    refine ⟨s.endShutting_untouched, ?_, State.endShutting_drives hp hstep hclosed⟩
    rw [State.endShutting_done hp hstep hclosed]
    rfl
  · have h := State.endReleasing_released hp hstep ha hk
    have hwork : s.armsWork = s.endReleasing := State.closeUncoupled_same (.inr (.inl (by rw [h.phase]; decide)))
    rw [hwork]
    exact ⟨h.phase, h.drives, h.baseline, h.identity, h.trip, h.peers, h.loader, h.current, h.store⟩
  · have hrelease : s.endReleasing = s := State.endReleasing_same (.inr (.inl (by rw [hp]; decide)))
    rw [State.armsWork, hrelease, State.closeUncoupled_done hp (by rw [State.ticketOpen, hk]; rfl) ha,
      State.closedTripped_eq hk]
  · have hrelease : s.endReleasing = s := State.endReleasing_same (by
      rcases h with h | ⟨h, _⟩ | ⟨_, h⟩ | ⟨h, _⟩
      · exact .inl h
      · exact .inr (.inl h)
      · exact .inr (.inr h)
      · exact .inr (.inl (by rw [h]; decide)))
    rw [State.armsWork, hrelease]
    refine State.closeUncoupled_same ?_
    rcases h with h | ⟨_, h⟩ | ⟨h, _⟩ | ⟨_, h⟩
    · exact .inl h
    · exact .inr (.inl h)
    · exact .inr (.inl (by rw [h]; decide))
    · exact .inr (.inr h)

/-! ## The timers of "PUSH" (R63, R74, R145) -/

theorem LineController.add_lastAnnounced (f : OutFrame) (l : LineController) :
    (l.add f).lastAnnounced = l.lastAnnounced := by
  unfold LineController.add
  split <;> rfl

/-- R113: a prompt test leaves what the line controller does now and what it announced last. -/
theorem State.promptOnMove_line (before : Pools Nat) (s : State) : (s.promptOnMove before).line.state = s.line.state ∧
    (s.promptOnMove before).line.inFlight = s.line.inFlight ∧
    (s.promptOnMove before).line.lastAnnounced = s.line.lastAnnounced := by
  unfold State.promptOnMove
  split
  · exact ⟨rfl, rfl, rfl⟩
  · rcases s.promptTest_line with h | h | h <;> rw [h]
    · exact ⟨rfl, rfl, rfl⟩
    · exact ⟨LineController.add_state _ _, LineController.add_inFlight _ _, LineController.add_lastAnnounced _ _⟩
    · exact ⟨rfl, rfl, rfl⟩

theorem untouched_onDet (f : DetectorUnit → DetectorUnit) (s : State) : Untouched [.det] s (s.onDet f) := by
  intro x hx
  cases x <;> simp_all [Block.same]

theorem untouched_onShare (f : ShareUnit → ShareUnit) (s : State) : Untouched [.share] s (s.onShare f) := by
  intro x hx
  cases x <;> simp_all [Block.same]

/-- R26, R64: a confirmed liquid-out. -/
theorem State.confirmLiquidOut_push (hp : s.seq.phase = .push) :
    s.confirmLiquidOut = ((s.note .empty 0).onDet DetectorUnit.liquidAgain).enterDrain := if_pos hp

theorem State.lowerThrottle_untouched (s : State) : Untouched [.det, .line, .ticket] s s.lowerThrottle := by
  intro x hx
  cases x <;> simp_all [Block.same, State.lowerThrottle]

theorem State.lowerThrottle_det (s : State) : s.lowerThrottle.det = { s.det with
    throttle := s.det.throttle - 1, clearTimer := if s.det.throttle - 1 = 0 then none else some 0 } := by
  have hidle : (if 1 < s.det.throttle then some 0 else none : Timer) =
      if s.det.throttle - 1 = 0 then none else some 0 := by
    split <;> split <;> first | rfl | omega
  rw [State.lowerThrottle, State.promptOnMove_det, State.note_det, State.onDet_det, hidle]

theorem State.lowerThrottle_ticket (s : State) :
    s.lowerThrottle.ticket = { s.ticket with current := noted .restore (s.det.throttle - 1) s.ticket } := by
  rw [State.lowerThrottle, State.promptOnMove_ticket, State.note_ticket, State.onDet_ticket]

/-- Settles O25: the confirm timer by the phase, the starvation timer, the clear timer below and at its limit. -/
theorem pushTimersExpire : Obligations.PushTimersExpire := by
  intro s n
  refine ⟨fun hstage ht hn => ⟨fun hp => ?_, fun hp => ?_⟩, fun ht hn hp => ?_,
    fun hp ht hlevel => ⟨fun hn => ?_, fun hn => ?_⟩⟩
  · refine ⟨_, congrArg Host.Outcome.next (if_pos ⟨hstage, (reached_iff _ _).mpr ⟨n, ht, hn⟩⟩), ?_⟩
    rw [State.confirmLiquidOut_push hp]
    have hdet : (((s.note .empty 0).onDet DetectorUnit.liquidAgain).enterDrain).det =
        s.det.liquidAgain.change .push .drain :=
      (State.enterPhase_det _ .drain).trans (congrArg (DetectorUnit.change · .drain _) hp)
    have hshare : (((s.note .empty 0).onDet DetectorUnit.liquidAgain).enterDrain).share = s.share.change .push .drain :=
      (State.enterPhase_share _ .drain).trans (congrArg (ShareUnit.change · .drain _) hp)
    refine ⟨?_, State.enterDrain_seq _, hdet, ?_, ?_, fun q => ?_, State.enterPhase_lvCommand .drain _,
      State.enterPhase_svOpening (by decide) _, State.enterPhase_rvOpening (by decide) _⟩
    · exact ((s.note_untouched .empty 0).weaken (by decide)).trans
        (((untouched_onDet _ _).weaken (by decide)).trans (State.enterDrain_untouched _))
    · simp [State.enterDrain]
    · rw [hshare]
      rfl
    · rw [hshare, ShareUnit.change_grant]
      cases q <;> rfl
  · exact congrArg Host.Outcome.next ((if_pos ⟨hstage, (reached_iff _ _).mpr ⟨n, ht, hn⟩⟩).trans (if_neg hp))
  · have hhold := State.enterHold_entered (some .push) .starved (s.onShare (fun u => { u with starvation := none }))
    have hseq := hhold.seq
    refine ⟨_, congrArg Host.Outcome.next ((if_pos ((reached_iff _ _).mpr ⟨n, ht, hn⟩)).trans (if_pos hp)),
      ((untouched_onShare _ s).weaken (by decide)).trans hhold.untouched, by rw [hseq], by rw [hseq], by rw [hseq], ?_,
      hhold.grant, hhold.ticket, hhold.drives, ?_, ?_, ?_, hhold.trim⟩
    · rw [hhold.share]
      simp [ShareUnit.change]
    · rw [hhold.det, DetectorUnit.change_throttle, State.onShare_det]
    · rw [hhold.det, DetectorUnit.change_clearTimer, State.onShare_det]
    · rw [hhold.det]
      simp [DetectorUnit.change, hp]
  · exact ⟨s.lowerThrottle, congrArg Host.Outcome.next (if_pos ⟨hp, (reached_iff _ _).mpr ⟨n, ht, hn⟩, hlevel⟩),
      s.lowerThrottle_untouched, s.lowerThrottle_det, s.lowerThrottle_ticket, State.promptOnMove_line _ _⟩
  · refine congrArg Host.Outcome.next (if_neg fun ⟨_, hreached, _⟩ => ?_)
    rw [ht, reached_some, decide_eq_true_eq] at hreached
    omega

end Sys2Proof.Machine
end


section
/-!
PROOFS. The display, the pre-transfer check and the ticket it opens (O21 to O24).
-/

namespace Sys2Proof.Machine

open Sys2Proof

variable {s t : State}

/-! ## Display and lamps (R42 to R44) -/

theorem State.display_running (hr : s.resetting = none) (hp : s.seq.phase ≠ .offline) :
    s.display = .shows (s.seq.tempCode.getD s.seq.phase.display) := by
  rw [State.display, if_neg (by simp [hr]), if_neg hp]

theorem State.display_offline (hr : s.resetting = none) (hp : s.seq.phase = .offline) :
    s.display = .shows (s.loader.cause.getD .of) := by
  rw [State.display, if_neg (by simp [hr]), if_pos hp]

/-- Settles O21: the tables by evaluation, the display by reset, phase and temporary code, each lamp by its phases. -/
theorem displayAndLampsShowTheState : Obligations.DisplayAndLampsShowTheState := by
  refine ⟨by decide, by decide, by decide, fun set s p c => ⟨rfl, rfl, fun hr => ?_, fun hr hp => ⟨fun cause hc => ?_, fun hc => ?_⟩,
    fun hr hp => ⟨fun code hc => ?_, fun hc => ?_, State.display_running hr hp, fun hpc => ?_⟩, rfl, by simp, ?_, ?_, ?_, ?_,
    fun hquiet hr => ?_⟩⟩
  · exact if_pos (Option.isSome_iff_ne_none.mpr hr)
  · rw [State.display_offline hr hp, hc, Option.getD_some]
  · rw [State.display_offline hr hp, hc, Option.getD_none]
  · rw [State.display_running hr hp, hc, Option.getD_some]
  · rw [State.display_running hr hp, hc, Option.getD_none]
  · rw [State.display_running (by simpa using hr) (by simpa using hpc)]
    simp
  · simp [State.lamps, or_assoc]
  · simp [State.lamps]
  · simp [State.lamps]
  · simp [State.lamps, State.running]
  · have hp : s.seq.phase = .offline := hquiet.1 hr
    simp [State.lamps, State.running, hp]

/-! ## The end of a check (R24, R51 to R53) -/

theorem State.failCheck_untouched (code : Code) (s : State) :
    Untouched [.input, .seq, .check, .det, .valve, .line, .share, .ticket] s (s.failCheck code) := by
  intro b hb
  cases b <;> simp_all [Block.same, State.failCheck]

theorem State.failCheck_seq (code : Code) (s : State) : (s.failCheck code).seq =
    ⟨.idle, none, none, false, .draining, none, 0, none, .shutting, none, some code, some 0⟩ := by
  simp [State.failCheck]

theorem State.failCheck_check (code : Code) (s : State) : (s.failCheck code).check = .reset := by
  simp [State.failCheck]

theorem State.failCheck_drives (code : Code) (s : State) : (s.failCheck code).drives = ⟨false, 0, 0, false⟩ :=
  State.drives_of_shut (State.enterIdle_shut _)

theorem State.failCheck_identity (code : Code) (s : State) : (s.failCheck code).input.identity = [] := by
  simp [State.failCheck]

theorem State.passCheck_untouched (s : State) :
    Untouched [.seq, .check, .det, .valve, .line, .share, .ticket] s s.passCheck := by
  intro b hb
  cases b <;> simp_all [Block.same, State.passCheck]

theorem State.passCheck_seq (s : State) : s.passCheck.seq = { s.seq with
    stopped := false, phase := .push, tempCode := none, tempTimer := none } := by
  simp [State.passCheck]

theorem State.passCheck_check (s : State) : s.passCheck.check = { s.check with
    step := .inactive, start := none, timer := none } := by
  simp [State.passCheck]

/-- R65: an entry into "PUSH" leaves the detectors. -/
theorem State.passCheck_det (s : State) : s.passCheck.det = { s.det with
    throttle := 0, flashCount := 0, clearTimer := none } := by
  rw [State.passCheck, State.enterPhase_det, DetectorUnit.change_push]
  simp

theorem State.passCheck_valve (s : State) : s.passCheck.valve.trim = 0 ∧ s.passCheck.valve.lvCommand = .opened ∧
    s.passCheck.valve.bvCommand = .closed :=
  ⟨State.enterPhase_trim .push _, State.enterPhase_lvCommand .push _, State.enterPhase_bvCommand .push _⟩

theorem fallTooLarge_iff (tolerance : Nat) (start present : Int) :
    fallTooLarge tolerance start present = true ↔ (tolerance : Int) < start - present := decide_eq_true_iff

theorem State.holdTestPasses_eq {p : Pressures} (hstart : s.check.start = some p) : s.holdTestPasses =
    (!fallTooLarge s.cfg.leakTolerance p.pCar s.pCar && !fallTooLarge s.cfg.leakTolerance p.pLiq s.pLiq) := by
  rw [State.holdTestPasses, hstart]

theorem exec_checkTimerExpiry {n : Nat} (hp : s.seq.phase = .check) (hstep : s.check.step = .holdTest)
    (ht : s.check.timer = some n) (hn : 10 * s.cfg.holdTime ≤ n) :
    exec .checkTimerExpiry s = .next (if s.holdTestPasses then s.passCheck else s.failCheck .fl) :=
  congrArg Host.Outcome.next (if_pos ⟨hp, hstep, (reached_iff _ _).mpr ⟨n, ht, hn⟩⟩)

/-- Settles O23: the falls within the tolerance pass, one above it fails. -/
theorem holdTestPassesOrFails : Obligations.HoldTestPassesOrFails := by
  intro s p n hp hstep ht hn hstart
  have hexec := exec_checkTimerExpiry hp hstep ht hn
  have hpasses := State.holdTestPasses_eq hstart
  refine ⟨fun hcar hliq => ?_, fun hfall => ?_⟩
  · have hpass : s.holdTestPasses = true := by
      rw [hpasses, Bool.and_eq_true, Bool.not_eq_true', Bool.not_eq_true', Bool.eq_false_iff, Bool.eq_false_iff, ne_eq,
        ne_eq, fallTooLarge_iff, fallTooLarge_iff]
      exact ⟨not_lt.mpr hcar, not_lt.mpr hliq⟩
    rw [hpass, if_pos rfl] at hexec
    obtain ⟨htrim, hlv, hbv⟩ := s.passCheck_valve
    have hseq := s.passCheck_seq
    have hdet := s.passCheck_det
    refine ⟨s.passCheck, hexec, s.passCheck_untouched, by rw [hseq], by rw [hseq], by rw [hseq], s.passCheck_check,
      by rw [hdet], by rw [hdet], by rw [hdet], htrim, hlv, hbv, ?_⟩
    rw [State.passCheck_ticket]
    exact ⟨_, rfl, rfl, rfl, rfl, rfl, rfl, rfl, rfl, rfl, rfl, rfl, rfl, rfl⟩
  · have hfail : s.holdTestPasses = false := by
      rw [hpasses, Bool.and_eq_false_iff, Bool.not_eq_false', Bool.not_eq_false', fallTooLarge_iff, fallTooLarge_iff]
      exact hfall
    rw [hfail, if_neg (by decide)] at hexec
    exact ⟨s.failCheck .fl, hexec, s.failCheck_untouched .fl, s.failCheck_seq .fl, s.failCheck_check .fl,
      s.failCheck_identity .fl, s.failCheck_drives .fl, s.failCheck_ticket .fl⟩

/-! ## The number of a new ticket (R169) -/

theorem nextTicket_eq {n : Nat} (h : n ≤ 65535) : nextTicket n = if n = 65535 then 1 else n + 1 := by
  unfold nextTicket
  split <;> split <;> omega

theorem nextTicket_iterate_eq {n : Nat} (h : n ≤ 65535) (j : Nat) :
    nextTicket^[j] n = (fun m : Nat => if m = 65535 then 1 else m + 1)^[j] n := by
  induction j generalizing n with
  | zero => rfl
  | succ j ih =>
    rw [Function.iterate_succ_apply, Function.iterate_succ_apply, ih (nextTicket_range h).2, nextTicket_eq h]

/-- Settles O24: only a pass opens a ticket, and its number is the first free one. -/
theorem newTicketTakesTheFirstFreeNumber : Obligations.NewTicketTakesTheFirstFreeNumber := by
  intro s t hdiffer hp hexec k hk follow
  obtain ⟨hagree, _, _, hlow, hhigh⟩ := hdiffer
  obtain ⟨_, hfits⟩ := (ticketsAgree_iff s).mp hagree
  have hnone := hfits.current_none (by rw [hp]; rfl) (by rw [hp]; decide)
  have hstore : s.ticket.store.length ≤ 3 := hfits.2.2.2 (.inl hp)
  rcases execCheckTimerExpiry_cases hexec with ⟨_, rfl⟩ | ⟨_, rfl⟩ | rfl
  · rw [State.passCheck_ticket] at hk ⊢
    obtain rfl := Option.some.inj hk
    obtain ⟨j, hj, heq, htaken, _⟩ := freeNumber_spec s.ticket.store s.ticket.nextNumber s.ticket.store.length
    have hrange := freeNumber_range hlow hhigh s.ticket.store s.ticket.store.length
    refine ⟨freeNumber_free hlow hhigh (by omega), nextTicket_eq hrange.2, j, by omega,
      heq.trans (nextTicket_iterate_eq hhigh j), fun i hi => ?_⟩
    have hmem := htaken i hi
    rwa [nextTicket_iterate_eq hhigh] at hmem
  · rw [State.failCheck_ticket] at hk
    rw [show s.ticket.current = some k from hk] at hnone
    exact Bool.noConfusion hnone
  · rw [hk] at hnone
    exact Bool.noConfusion hnone

/-! ## The baseline (R47 to R50) -/

theorem State.checkWork_lost (hp : s.seq.phase = .check) (hstep : s.check.step ≠ .inactive) (hc : s.connected = false) :
    s.checkWork = (s.failCheck .fa, false) := by
  rw [State.checkWork, if_neg (by simp [hp, hstep]), if_pos (by simp [hc])]

theorem State.checkWork_holdTest (hstep : s.check.step = .holdTest) (hc : s.connected = true) : s.checkWork = (s, false) := by
  simp [State.checkWork, hstep, hc]

theorem State.checkWork_baseline (hp : s.seq.phase = .check) (hstep : s.check.step = .baseline) (hc : s.connected = true) :
    s.checkWork = s.baselineSample := by
  simp [State.checkWork, hp, hstep, hc]

theorem State.connected_iff (s : State) : s.connected = true ↔ s.groundOk = true ∧ s.armsCoupled = true := by
  rw [State.connected, Bool.and_eq_true]

/-- R48: the smaller and the larger of a value and what was taken before. -/
def leastOf (v : Int) (m : Option Int) : Int := m.elim v (min v)

def mostOf (v : Int) (m : Option Int) : Int := m.elim v (max v)

theorem lowerTo_eq (v : Int) (m : Option Int) : lowerTo v m = some (leastOf v m) := by
  cases m with
  | none => rfl
  | some w => exact congrArg some (min_comm w v)

theorem raiseTo_eq (v : Int) (m : Option Int) : raiseTo v m = some (mostOf v m) := by
  cases m with
  | none => rfl
  | some w => exact congrArg some (max_comm w v)

/-- R48: the check unit with the sample taken. -/
theorem CheckUnit.takeSample_eq (v : Axes Int) (c : CheckUnit) : c.takeSample v = { c with
    count := c.count + 1
    sums := ⟨c.sums.x + v.x, c.sums.y + v.y, c.sums.z + v.z⟩
    mins := ⟨some (leastOf v.x c.mins.x), some (leastOf v.y c.mins.y), some (leastOf v.z c.mins.z)⟩
    maxs := ⟨some (mostOf v.x c.maxs.x), some (mostOf v.y c.maxs.y), some (mostOf v.z c.maxs.z)⟩ } := by
  simp only [CheckUnit.takeSample, axesZip, lowerTo_eq, raiseTo_eq]

/-- R48: an axis has moved too far, with this sample. -/
def CheckUnit.movedTooFar (threshold : Axes Nat) (v : Axes Int) (c : CheckUnit) : Prop :=
  (threshold.x : Int) < mostOf v.x c.maxs.x - leastOf v.x c.mins.x ∨
  (threshold.y : Int) < mostOf v.y c.maxs.y - leastOf v.y c.mins.y ∨
  (threshold.z : Int) < mostOf v.z c.maxs.z - leastOf v.z c.mins.z

theorem CheckUnit.unsteady_iff (threshold : Axes Nat) (v : Axes Int) (c : CheckUnit) :
    (c.takeSample v).unsteady threshold = true ↔ c.movedTooFar threshold v := by
  rw [CheckUnit.takeSample_eq]
  simp only [CheckUnit.unsteady, axesAny, axesZip, spreadOf, CheckUnit.movedTooFar, Option.getD_some, Bool.or_eq_true,
    or_assoc]
  exact or_congr decide_eq_true_iff (or_congr decide_eq_true_iff decide_eq_true_iff)

theorem State.baselineSample_unsteady (h : s.check.movedTooFar s.cfg.driftThreshold s.axes) :
    s.baselineSample = (s.failCheck .fb, false) := if_pos ((CheckUnit.unsteady_iff _ _ _).mpr h)

theorem State.baselineSample_steady (h : ¬ s.check.movedTooFar s.cfg.driftThreshold s.axes) (hc : s.check.count < 15) :
    s.baselineSample = (s.onCheck (CheckUnit.takeSample s.axes), false) := by
  refine (if_neg fun hu => h ((CheckUnit.unsteady_iff _ _ _).mp hu)).trans (if_pos ?_)
  show s.check.count + 1 < 16
  omega

theorem State.baselineSample_sixteenth (h : ¬ s.check.movedTooFar s.cfg.driftThreshold s.axes) (hc : 15 ≤ s.check.count) :
    s.baselineSample =
      (s.onCheck (fun c => (c.takeSample s.axes).complete ⟨s.pCar, s.pLiq⟩), true) := by
  refine (if_neg fun hu => h ((CheckUnit.unsteady_iff _ _ _).mp hu)).trans (if_neg ?_)
  show ¬ s.check.count + 1 < 16
  omega

/-! ### Steady readings -/

/-- The check unit after so many samples of one reading. -/
def steadyCheck (v : Axes Int) (k : Nat) : CheckUnit where
  step := .baseline
  count := k
  sums := ⟨k * v.x, k * v.y, k * v.z⟩
  mins := if k = 0 then ⟨none, none, none⟩ else ⟨some v.x, some v.y, some v.z⟩
  maxs := if k = 0 then ⟨none, none, none⟩ else ⟨some v.x, some v.y, some v.z⟩
  start := none
  timer := none
  baseline := none

theorem steadyCheck_extremes (v : Axes Int) (k : Nat) :
    (leastOf v.x (steadyCheck v k).mins.x = v.x ∧ leastOf v.y (steadyCheck v k).mins.y = v.y ∧
      leastOf v.z (steadyCheck v k).mins.z = v.z) ∧
    (mostOf v.x (steadyCheck v k).maxs.x = v.x ∧ mostOf v.y (steadyCheck v k).maxs.y = v.y ∧
      mostOf v.z (steadyCheck v k).maxs.z = v.z) := by
  unfold steadyCheck
  split <;> simp [leastOf, mostOf]

theorem steadyCheck_not_moved (threshold : Axes Nat) (v : Axes Int) (k : Nat) :
    ¬ (steadyCheck v k).movedTooFar threshold v := by
  obtain ⟨⟨hx, hy, hz⟩, hX, hY, hZ⟩ := steadyCheck_extremes v k
  rw [CheckUnit.movedTooFar, hx, hy, hz, hX, hY, hZ]
  omega

theorem steadyCheck_succ (v : Axes Int) (k : Nat) : (steadyCheck v k).takeSample v = steadyCheck v (k + 1) := by
  obtain ⟨⟨hx, hy, hz⟩, hX, hY, hZ⟩ := steadyCheck_extremes v k
  rw [CheckUnit.takeSample_eq, hx, hy, hz, hX, hY, hZ]
  simp [steadyCheck, add_mul]

theorem State.checkWork_steady (hp : s.seq.phase = .check) (hc : s.connected = true) {k : Nat} (hk : k < 15) :
    (s.onCheck (fun _ => steadyCheck s.axes k)).checkWork.1 = s.onCheck (fun _ => steadyCheck s.axes (k + 1)) := by
  rw [State.checkWork_baseline (s := s.onCheck (fun _ => steadyCheck s.axes k)) hp rfl hc,
    State.baselineSample_steady (s := s.onCheck (fun _ => steadyCheck s.axes k)) (steadyCheck_not_moved _ _ _) hk]
  exact congrArg (fun c => s.onCheck (fun _ => c)) (steadyCheck_succ s.axes k)

theorem State.checkWork_steady_iterate (hp : s.seq.phase = .check) (hc : s.connected = true) {k : Nat} (hk : k ≤ 15) :
    (fun u : State => u.checkWork.1)^[k] (s.onCheck (fun _ => steadyCheck s.axes 0)) =
      s.onCheck (fun _ => steadyCheck s.axes k) := by
  induction k with
  | zero => rfl
  | succ k ih => rw [Function.iterate_succ_apply', ih (by omega), State.checkWork_steady hp hc (by omega)]

theorem State.failCheck_fails (code : Code) (s : State) :
    Untouched [.input, .seq, .check, .det, .valve, .line, .share, .ticket] s (s.failCheck code) ∧
      (s.failCheck code).seq.phase = .idle ∧ (s.failCheck code).seq.tempCode = some code ∧
      (s.failCheck code).seq.tempTimer = some 0 ∧ (s.failCheck code).drives = ⟨false, 0, 0, false⟩ ∧
      (s.failCheck code).check = .reset ∧ (s.failCheck code).ticket.current = s.ticket.current ∧
      (s.failCheck code).ticket.store = s.ticket.store := by
  have hseq := s.failCheck_seq code
  have hticket := s.failCheck_ticket code
  exact ⟨s.failCheck_untouched code, by rw [hseq], by rw [hseq], by rw [hseq], s.failCheck_drives code,
    s.failCheck_check code, by rw [hticket], by rw [hticket]⟩

/-- R50: the sixteenth sample of one reading. -/
theorem State.checkWork_steady_complete (hp : s.seq.phase = .check) (hc : s.connected = true) :
    ((s.onCheck (fun _ => steadyCheck s.axes 15)).checkWork.1).check =
      (steadyCheck s.axes 16).complete ⟨s.pCar, s.pLiq⟩ := by
  rw [State.checkWork_baseline (s := s.onCheck (fun _ => steadyCheck s.axes 15)) hp rfl hc,
    State.baselineSample_sixteenth (s := s.onCheck (fun _ => steadyCheck s.axes 15)) (steadyCheck_not_moved _ _ _) le_rfl]
  exact congrArg (CheckUnit.complete ⟨s.pCar, s.pLiq⟩) (steadyCheck_succ s.axes 15)

/-- Settles O22: the failures, a hold test that goes on, the baseline below and at the sixteenth sample, and steady
readings by iteration. -/
theorem baselineIsTakenOverSixteenSamples : Obligations.BaselineIsTakenOverSixteenSamples := by
  intro s hp c p connected least most tooFar sums fails
  have hleast : leastOf = least := by
    funext v m
    cases m <;> rfl
  have hmost : mostOf = most := by
    funext v m
    cases m <;> rfl
  have hconnected : s.connected = true ↔ connected := s.connected_iff
  have hfar : s.check.movedTooFar s.cfg.driftThreshold s.axes ↔ tooFar := by
    rw [CheckUnit.movedTooFar, hleast, hmost]
    rfl
  refine ⟨fun hstep hc => ?_, fun hstep hc => State.checkWork_holdTest hstep (hconnected.mpr hc), fun hstep hc hmoved => ?_,
    fun hstep hc hsteady hcount => ?_, fun hstep hc hsteady hcount => ?_, fun hfresh hc => ?_⟩
  · exact ⟨_, State.checkWork_lost hp hstep (Bool.eq_false_iff.mpr fun h => hc (hconnected.mp h)), s.failCheck_fails .fa⟩
  · exact ⟨_, (State.checkWork_baseline hp hstep (hconnected.mpr hc)).trans
      (State.baselineSample_unsteady (hfar.mpr hmoved)), s.failCheck_fails .fb⟩
  · rw [State.checkWork_baseline hp hstep (hconnected.mpr hc),
      State.baselineSample_steady (fun h => hsteady (hfar.mp h)) hcount, ← hleast, ← hmost]
    exact congrArg (fun c => ({ s with check := c }, false)) (CheckUnit.takeSample_eq s.axes s.check)
  · rw [State.checkWork_baseline hp hstep (hconnected.mpr hc),
      State.baselineSample_sixteenth (fun h => hsteady (hfar.mp h)) hcount]
    exact congrArg (fun c => ({ s with check := CheckUnit.complete ⟨s.pCar, s.pLiq⟩ c }, true))
      (CheckUnit.takeSample_eq s.axes s.check)
  · have hstart : s = s.onCheck (fun _ => steadyCheck s.axes 0) := by
      have hzero : steadyCheck s.axes 0 = s.check := by
        rw [show s.check = _ from hfresh]
        simp [steadyCheck]
      rw [hzero]
      rfl
    have hiterate := fun k (hk : k ≤ 15) => State.checkWork_steady_iterate hp (hconnected.mpr hc) hk
    rw [← hstart] at hiterate
    have hlast := State.checkWork_steady_complete hp (hconnected.mpr hc)
    rw [← hiterate 15 le_rfl, ← Function.iterate_succ_apply' (fun u : State => u.checkWork.1)] at hlast
    refine ⟨fun k hk => ?_, ?_, ?_⟩
    · rw [hiterate k hk]
      exact ⟨rfl, rfl⟩
    · rw [hlast]
      rfl
    · rw [hlast]
      have hmean : ∀ v : Int, (16 * v).tdiv 16 = v := fun v => Int.mul_tdiv_cancel_left v (by decide)
      exact congrArg some (Axes.mk.injEq .. ▸ ⟨hmean _, hmean _, hmean _⟩)

end Sys2Proof.Machine
end


section
/-!
PROOFS. The detector unit at a sample event (O26, O27).
-/

namespace Sys2Proof.Machine

open Sys2Proof

variable {s t : State} {d : DetectorUnit}

/-! ## What each detector writes -/

/-- R66: the excess count alone. -/
theorem State.excessJudge_eq (s : State) (d : DetectorUnit) : s.excessJudge d = { d with
    excessCount := if s.cfg.excessLimit < s.input.flow ∧ d.excessCount + 1 < s.cfg.excessCount then d.excessCount + 1
      else 0 } := by
  unfold State.excessJudge
  split <;> rfl

/-- R68: the count of the window at a sample event, which a start takes to 0. -/
def State.windowAge (s : State) (d : DetectorUnit) : Nat := if s.surgeStarts d = true then 0 else d.windowCount

/-- R68, R69: the surge state and the count of the window after a sample event. -/
def State.surgeNext (s : State) (d : DetectorUnit) : SurgeState × Nat :=
  if s.surgeStarts d = true ∨ d.surge = .window then
    if s.pLiq < (s.cfg.breakPressure : Int) ∨ s.cfg.surgeWindow ≤ s.windowAge d then (.armed, 0)
    else (.window, s.windowAge d + 1)
  else (d.surge, d.windowCount)

theorem State.surgeNext_shut (h : ¬ (s.surgeStarts d = true ∨ d.surge = .window)) :
    s.surgeNext d = (d.surge, d.windowCount) := if_neg h

theorem State.surgeNext_ends (h : s.surgeStarts d = true ∨ d.surge = .window)
    (hend : s.pLiq < (s.cfg.breakPressure : Int) ∨ s.cfg.surgeWindow ≤ s.windowAge d) : s.surgeNext d = (.armed, 0) := by
  rw [State.surgeNext, if_pos h, if_pos hend]

theorem State.surgeNext_goes_on (h : s.surgeStarts d = true ∨ d.surge = .window)
    (hlow : ¬ s.pLiq < (s.cfg.breakPressure : Int)) (hage : s.windowAge d < s.cfg.surgeWindow) :
    s.surgeNext d = (.window, s.windowAge d + 1) := by
  rw [State.surgeNext, if_pos h, if_neg (not_or.mpr ⟨hlow, Nat.not_le.mpr hage⟩)]

theorem State.surgeJudge_eq (s : State) (d : DetectorUnit) : s.surgeJudge d = { d with
    surge := (s.surgeNext d).1, windowCount := (s.surgeNext d).2, previousPLiq := some s.pLiq } := by
  unfold State.surgeJudge State.surgeEnd State.surgeOpen State.surgeNext State.windowAge
  cases hstart : s.surgeStarts d with
  | true =>
    by_cases hlow : s.pLiq < (s.cfg.breakPressure : Int)
    · simp [hlow]
    · by_cases hcount : s.cfg.surgeWindow = 0
      · simp [hlow, hcount]
      · simp [hlow, hcount, Nat.pos_of_ne_zero hcount]
  | false =>
    cases hsurge : d.surge with
    | armed => simp [hsurge]
    | window =>
      by_cases hlow : s.pLiq < (s.cfg.breakPressure : Int)
      · simp [hsurge, hlow]
      · by_cases hcount : d.windowCount < s.cfg.surgeWindow
        · simp [hsurge, hlow, hcount, Nat.not_le.mpr hcount]
        · simp [hsurge, hlow, hcount, Nat.not_lt.mp hcount]

/-- R72: the flashing count and the clear timer alone. -/
theorem State.flashJudge_eq (s : State) (d : DetectorUnit) : s.flashJudge d = { d with
    flashCount := if s.flashing = true then (if s.cfg.flashCount ≤ d.flashCount + 1 then 0 else d.flashCount + 1) else 0
    clearTimer := if s.flashing = true then (if 0 < d.throttle then some 0 else none) else d.clearTimer } := by
  unfold State.flashJudge
  split <;> rfl

/-- R60 to R63: the stage, the count of low samples and the confirm timer alone. -/
theorem State.liquidJudge_eq (s : State) (d : DetectorUnit) : s.liquidJudge d = { d with
    stage := (s.liquidJudge d).stage, lowCount := (s.liquidJudge d).lowCount
    confirmTimer := (s.liquidJudge d).confirmTimer } := by
  unfold State.liquidJudge
  split
  · rfl
  split
  · rfl
  split
  · rfl
  split
  · rfl
  split
  · rfl
  split <;> rfl

/-- R68: a start and the window are judged on the unit's own three items. -/
theorem State.surgeNext_congr {e : DetectorUnit} (hsurge : d.surge = e.surge) (hprevious : d.previousPLiq = e.previousPLiq)
    (hcount : d.windowCount = e.windowCount) (s : State) : s.surgeNext d = s.surgeNext e := by
  have hstarts : s.surgeStarts d = s.surgeStarts e := by rw [State.surgeStarts, State.surgeStarts, hprevious]
  rw [State.surgeNext, State.surgeNext, State.windowAge, State.windowAge, hstarts, hsurge, hcount]

/-! ## The unit in its phases (R59) -/

/-- What the four detectors write in "PUSH". -/
theorem State.transferJudge_push (hp : s.seq.phase = .push) (d : DetectorUnit) : s.transferJudge d = { d with
    stage := (s.liquidJudge d).stage
    lowCount := (s.liquidJudge d).lowCount
    confirmTimer := (s.liquidJudge d).confirmTimer
    excessCount := if s.cfg.excessLimit < s.input.flow ∧ d.excessCount + 1 < s.cfg.excessCount then d.excessCount + 1
      else 0
    surge := (s.surgeNext d).1
    windowCount := (s.surgeNext d).2
    previousPLiq := some s.pLiq
    flashCount := if s.flashing = true then (if s.cfg.flashCount ≤ d.flashCount + 1 then 0 else d.flashCount + 1) else 0
    clearTimer := if s.flashing = true then (if 0 < d.throttle then some 0 else none) else d.clearTimer } := by
  have hjudge : s.transferJudge d = s.flashJudge (s.surgeJudge (s.excessJudge (s.liquidJudge d))) := by
    rw [State.transferJudge, hp]
  have hsurge : s.surgeNext (s.excessJudge (s.liquidJudge d)) = s.surgeNext d := by
    rw [State.excessJudge_eq, State.liquidJudge_eq]
    exact State.surgeNext_congr rfl rfl rfl s
  rw [hjudge, State.flashJudge_eq, State.surgeJudge_eq, hsurge, State.excessJudge_eq, State.liquidJudge_eq]

theorem State.transferJudge_drain (hp : s.seq.phase = .drain) (d : DetectorUnit) : s.transferJudge d = { d with
    excessCount := if s.cfg.excessLimit < s.input.flow ∧ d.excessCount + 1 < s.cfg.excessCount then d.excessCount + 1
      else 0
    surge := (s.surgeNext d).1
    windowCount := (s.surgeNext d).2
    previousPLiq := some s.pLiq } := by
  have hjudge : s.transferJudge d = s.surgeJudge (s.excessJudge d) := by
    rw [State.transferJudge, hp]
  have hsurge : s.surgeNext (s.excessJudge d) = s.surgeNext d := by
    rw [State.excessJudge_eq]
    exact State.surgeNext_congr rfl rfl rfl s
  rw [hjudge, State.surgeJudge_eq, hsurge, State.excessJudge_eq]

theorem State.transferJudge_elsewhere (hp : s.seq.phase ≠ .push) (hd : s.seq.phase ≠ .drain) (d : DetectorUnit) :
    s.transferJudge d = d := by
  unfold State.transferJudge
  cases h : s.seq.phase <;> simp_all

/-- R59: the four detectors leave the throttle level and the drift count. -/
theorem State.transferJudge_keeps (s : State) (d : DetectorUnit) :
    (s.transferJudge d).throttle = d.throttle ∧ (s.transferJudge d).driftCount = d.driftCount := by
  by_cases hp : s.seq.phase = .push
  · rw [State.transferJudge_push hp]
    exact ⟨rfl, rfl⟩
  · by_cases hd : s.seq.phase = .drain
    · rw [State.transferJudge_drain hd]
      exact ⟨rfl, rfl⟩
    · rw [State.transferJudge_elsewhere hp hd]
      exact ⟨rfl, rfl⟩

/-- R59: while liquid is drawn, excess flow and surge/break are judged. -/
theorem State.transferJudge_drawing (h : s.seq.phase = .push ∨ s.seq.phase = .drain) (d : DetectorUnit) :
    (s.transferJudge d).excessCount =
      (if s.cfg.excessLimit < s.input.flow ∧ d.excessCount + 1 < s.cfg.excessCount then d.excessCount + 1 else 0) ∧
    (s.transferJudge d).surge = (s.surgeNext d).1 ∧ (s.transferJudge d).windowCount = (s.surgeNext d).2 ∧
    (s.transferJudge d).previousPLiq = some s.pLiq := by
  rcases h with h | h
  · rw [State.transferJudge_push h]
    exact ⟨rfl, rfl, rfl, rfl⟩
  · rw [State.transferJudge_drain h]
    exact ⟨rfl, rfl, rfl, rfl⟩

/-- R76, R77: the drift detector writes the drift count alone, and its report is DRIFT. -/
theorem State.detectorWork_eq (fresh : Bool) (s : State) : (s.detectorWork fresh).1 = s.onDet (fun d =>
    { s.transferJudge d with driftCount := (s.driftBaseline fresh).elim (s.transferJudge d).driftCount s.driftNext }) := by
  unfold State.detectorWork
  cases s.driftBaseline fresh <;> rfl

theorem mem_detectorWork_reports (fresh : Bool) (s : State) (r : SampleReport) : r ∈ (s.detectorWork fresh).2 ↔
    r ∈ s.transferReports ∨ (r = .cause .drift ∧ ∃ b, s.driftBaseline fresh = some b ∧ s.driftReports b = true) := by
  unfold State.detectorWork
  cases s.driftBaseline fresh with
  | none => simp
  | some b => cases h : s.driftReports b <;> simp [h]

/-- The reports of the four detectors, each with its own condition. -/
theorem mem_transferReports (s : State) (r : SampleReport) : r ∈ s.transferReports ↔
    (r = .confirm ∧ s.seq.phase = .push ∧ s.liquidConfirms s.det = true) ∨
    (r = .cause .excess ∧ (s.seq.phase = .push ∨ s.seq.phase = .drain) ∧ s.excessReports s.det = true) ∨
    (r = .cause .brk ∧ (s.seq.phase = .push ∨ s.seq.phase = .drain) ∧ s.breakReports s.det = true) ∨
    (r = .throttle ∧ s.seq.phase = .push ∧ s.episode s.det = true ∧ s.det.throttle < s.cfg.maxThrottle) ∨
    (r = .hold ∧ s.seq.phase = .push ∧ s.episode s.det = true ∧ ¬ s.det.throttle < s.cfg.maxThrottle) := by
  unfold State.transferReports
  cases hp : s.seq.phase
  case push =>
    cases s.liquidConfirms s.det <;> cases s.excessReports s.det <;> cases s.breakReports s.det <;>
      cases s.episode s.det <;> by_cases h : s.det.throttle < s.cfg.maxThrottle <;> simp [h]
  case drain => cases s.excessReports s.det <;> cases s.breakReports s.det <;> simp
  all_goals simp

/-! ## Liquid-out (R60 to R64) -/

theorem State.liquidSuspended_iff (s : State) : s.liquidSuspended = true ↔
    s.share.grant.supply = 0 ∨ s.share.grant.header = 0 ∨ s.valve.trim = 1000 := by
  simp [State.liquidSuspended, or_assoc]

theorem State.vapourThrough_iff (s : State) : s.vapourThrough = true ↔
    |s.input.sensors.pCar.value - s.input.sensors.pLiq.value| ≤ (s.cfg.vapourBand : Int) := by
  rw [State.vapourThrough, decide_eq_true_iff, Int.abs_eq_natAbs, Int.ofNat_le]
  rfl

theorem State.liquidConfirms_iff (s : State) (d : DetectorUnit) : s.liquidConfirms d = true ↔
    s.liquidSuspended = false ∧ s.input.flow < s.cfg.emptyFlow ∧ d.stage = .counting ∧
      s.cfg.emptyCount ≤ d.lowCount + 1 ∧ s.vapourThrough = true ∧ s.cfg.confirmWait = 0 := by
  simp [State.liquidConfirms, and_assoc]

/-- R60, R63: a suspended sample, and one that is not low. -/
theorem State.liquidJudge_again (h : s.liquidSuspended = true ∨ ¬ s.input.flow < s.cfg.emptyFlow) (d : DetectorUnit) :
    s.liquidJudge d = d.liquidAgain ∧ s.liquidConfirms d = false := by
  refine ⟨?_, Bool.eq_false_iff.mpr fun hc => ?_⟩
  · unfold State.liquidJudge
    rcases h with h | h
    · rw [if_pos h]
    · rw [if_pos (Nat.not_lt.mp h), ite_self]
  · obtain ⟨hs, hlow, _⟩ := (s.liquidConfirms_iff d).mp hc
    rcases h with h | h
    · exact Bool.noConfusion (h.symm.trans hs)
    · exact h hlow

section

variable (hs : s.liquidSuspended = false) (hlow : s.input.flow < s.cfg.emptyFlow)

include hs hlow

theorem State.liquidJudge_waiting (hd : d.stage = .waiting) : s.liquidJudge d = d := by
  rw [State.liquidJudge, if_neg (by simp [hs]), if_neg (Nat.not_le.mpr hlow), if_pos hd]

theorem State.liquidJudge_counting (hd : d.stage = .counting) : s.liquidJudge d =
    if d.lowCount + 1 < s.cfg.emptyCount then { d with lowCount := d.lowCount + 1 }
    else if !s.vapourThrough then { d with lowCount := 0 }
    else if s.cfg.confirmWait = 0 then { d with lowCount := s.cfg.emptyCount }
    else { d with lowCount := s.cfg.emptyCount, stage := .waiting, confirmTimer := some 0 } := by
  rw [State.liquidJudge, if_neg (by simp [hs]), if_neg (Nat.not_le.mpr hlow), if_neg (by rw [hd]; decide)]

/-- R61: low samples below the empty count. -/
theorem State.liquidJudge_iterate (hd : d.stage = .counting) (hzero : d.lowCount = 0) {k : Nat}
    (hk : k < s.cfg.emptyCount) : s.liquidJudge^[k] d = { d with lowCount := k } := by
  induction k with
  | zero => rw [Function.iterate_zero, id, ← hzero]
  | succ k ih =>
    rw [Function.iterate_succ_apply', ih (by omega),
      State.liquidJudge_counting hs hlow (d := { d with lowCount := k }) hd, if_pos hk]

/-- R62: the low sample that reaches the empty count. -/
theorem State.liquidJudge_iterate_full (hd : d.stage = .counting) (hzero : d.lowCount = 0) (hpos : 0 < s.cfg.emptyCount) :
    s.liquidJudge^[s.cfg.emptyCount] d =
      if !s.vapourThrough then { d with lowCount := 0 }
      else if s.cfg.confirmWait = 0 then { d with lowCount := s.cfg.emptyCount }
      else { d with lowCount := s.cfg.emptyCount, stage := .waiting, confirmTimer := some 0 } := by
  obtain ⟨n, hn⟩ := Nat.exists_eq_add_one.mpr hpos
  have hlast := State.liquidJudge_iterate hs hlow hd hzero (k := n) (by omega)
  have hstep := State.liquidJudge_counting hs hlow (d := { d with lowCount := n }) hd
  rw [if_neg (show ¬ n + 1 < s.cfg.emptyCount by omega)] at hstep
  calc s.liquidJudge^[s.cfg.emptyCount] d = s.liquidJudge (s.liquidJudge^[n] d) := by
        rw [hn, Function.iterate_succ_apply']
    _ = _ := by rw [hlast, hstep]

end

/-- Settles O26: the unit's own part in "PUSH" and outside it, the samples that begin again, the wait, and the count by
iteration. -/
theorem lowSamplesCountToTheEmptyCount : Obligations.LowSamplesCountToTheEmptyCount := by
  intro s d suspended low close again
  have hsuspended : s.liquidSuspended = true ↔ suspended := s.liquidSuspended_iff
  have hclose : s.vapourThrough = true ↔ close := s.vapourThrough_iff
  refine ⟨fun fresh => ?_, fun h => State.liquidJudge_again (.inl (hsuspended.mpr h)) d,
    fun h => State.liquidJudge_again (.inr h) d, fun h hlow hd => ?_, fun hd hzero h hlow => ?_⟩
  · intro t
    have ht : t.det = _ := congrArg State.det (s.detectorWork_eq fresh)
    rw [State.onDet_det] at ht
    refine ⟨fun hp => ?_, fun hp => ?_⟩
    · rw [State.transferJudge_push hp] at ht
      refine ⟨by rw [ht], by rw [ht], by rw [ht], ?_⟩
      rw [mem_detectorWork_reports, mem_transferReports]
      simp [hp]
    · have hsame := s.transferJudge_liquid hp s.det
      refine ⟨by rw [ht]; exact hsame.stage, by rw [ht]; exact hsame.lowCount, by rw [ht]; exact hsame.confirmTimer, ?_⟩
      rw [mem_detectorWork_reports, mem_transferReports]
      simp [hp]
  · have hs : s.liquidSuspended = false := Bool.eq_false_iff.mpr fun k => h (hsuspended.mp k)
    refine ⟨State.liquidJudge_waiting hs hlow hd, Bool.eq_false_iff.mpr fun hc => ?_⟩
    obtain ⟨_, _, hcounting, _⟩ := (s.liquidConfirms_iff d).mp hc
    exact LiquidStage.noConfusion (hd.symm.trans hcounting)
  · have hs : s.liquidSuspended = false := Bool.eq_false_iff.mpr fun k => h (hsuspended.mp k)
    have hfull := State.liquidJudge_iterate_full hs hlow hd hzero
    refine ⟨fun k hk => ⟨State.liquidJudge_iterate hs hlow hd hzero hk, ?_⟩, fun hpos hfar => ?_, fun hpos hc =>
      ⟨fun hwait => ?_, fun hwait => ?_⟩⟩
    · rw [State.liquidConfirms_iff, hclose]
      constructor
      · rintro ⟨_, _, _, hcount, hc, hwait⟩
        exact ⟨le_antisymm hk hcount, hc, hwait⟩
      · rintro ⟨hcount, hc, hwait⟩
        exact ⟨hs, hlow, hd, hcount.ge, hc, hwait⟩
    · rw [hfull hpos, if_pos (by simpa using fun k => hfar (hclose.mp k)), ← hzero]
    · rw [hfull hpos, if_neg (by simp [hclose.mpr hc]), if_neg (by omega)]
    · rw [State.liquidJudge_iterate hs hlow hd hzero (by omega), State.liquidConfirms_iff]
      exact ⟨hs, hlow, hd, show s.cfg.emptyCount ≤ s.cfg.emptyCount - 1 + 1 by omega, hclose.mpr hc, hwait⟩

/-! ## Excess flow, surge and break, flashing, drift (R66 to R77) -/

theorem State.excessReports_iff (s : State) (d : DetectorUnit) : s.excessReports d = true ↔
    s.cfg.excessLimit < s.input.flow ∧ s.cfg.excessCount ≤ d.excessCount + 1 := by
  simp [State.excessReports]

/-- R68: a start. -/
theorem State.surgeStarts_eq (s : State) (d : DetectorUnit) : s.surgeStarts d =
    d.previousPLiq.any (fun v => decide ((s.cfg.surgeDrop : Int) < v - s.pLiq)) := by
  unfold State.surgeStarts
  cases d.previousPLiq <;> rfl

theorem State.surgeStarts_iff (s : State) (d : DetectorUnit) : s.surgeStarts d = true ↔
    ∃ v, d.previousPLiq = some v ∧ (s.cfg.surgeDrop : Int) < v - s.pLiq := by
  rw [State.surgeStarts_eq]
  cases d.previousPLiq <;> simp

/-- R68: the window is open at this sample event. -/
theorem State.surgeOpen_window_iff (s : State) (d : DetectorUnit) :
    (s.surgeOpen d).surge = .window ↔ s.surgeStarts d = true ∨ d.surge = .window := by
  unfold State.surgeOpen
  cases s.surgeStarts d <;> simp

theorem State.breakReports_iff (s : State) (d : DetectorUnit) : s.breakReports d = true ↔
    (s.surgeStarts d = true ∨ d.surge = .window) ∧ s.pLiq < (s.cfg.breakPressure : Int) := by
  rw [State.breakReports, Bool.and_eq_true, beq_iff_eq, decide_eq_true_iff, State.surgeOpen_window_iff]

theorem State.flashing_iff (s : State) : s.flashing = true ↔
    s.pLiq < (saturationAt s.cfg.saturation s.tLiq : Int) + (s.cfg.flashMargin : Int) := by
  rw [State.flashing, decide_eq_true_iff, Nat.cast_add]

theorem State.episode_iff (s : State) (d : DetectorUnit) : s.episode d = true ↔
    s.flashing = true ∧ s.cfg.flashCount ≤ d.flashCount + 1 := by
  simp [State.episode]

theorem outOfPlace_iff (threshold : Axes Nat) (b v : Axes Int) : outOfPlace threshold b v = true ↔
    threshold.x < (v.x - b.x).natAbs ∨ threshold.y < (v.y - b.y).natAbs ∨ threshold.z < (v.z - b.z).natAbs := by
  simp only [outOfPlace, axesAny, axesZip, Bool.or_eq_true, or_assoc]
  exact or_congr decide_eq_true_iff (or_congr decide_eq_true_iff decide_eq_true_iff)

/-- R76: the phases of the drift detector, but for a baseline completed at this event. -/
theorem State.drifts_iff (fresh : Bool) (s : State) :
    (s.driftPhase && !(fresh && s.seq.phase == .check)) = true ↔
      (s.seq.phase = .check ∧ s.check.step = .holdTest ∧ fresh = false) ∨ (s.seq.phase = .push ∨ s.seq.phase = .drain) ∨
      s.seq.phase = .recover ∨ s.seq.phase = .close ∨ s.seq.phase = .hold ∨
      (s.seq.phase = .tripped ∧ s.ticketOpen = true) := by
  unfold State.driftPhase
  cases hp : s.seq.phase <;> cases fresh <;> simp

theorem State.driftBaseline_runs {fresh : Bool} (h : (s.driftPhase && !(fresh && s.seq.phase == .check)) = true) :
    s.driftBaseline fresh = s.check.baseline := if_pos h

theorem State.driftBaseline_none {fresh : Bool}
    (h : s.check.baseline = none ∨ ¬ (s.driftPhase && !(fresh && s.seq.phase == .check)) = true) :
    s.driftBaseline fresh = none := by
  unfold State.driftBaseline
  split
  · exact h.resolve_right fun k => k (by assumption)
  · rfl

section

variable (fresh : Bool) (s : State)

theorem State.detectorWork_det : (s.detectorWork fresh).1.det = { s.transferJudge s.det with
    driftCount := (s.driftBaseline fresh).elim s.det.driftCount s.driftNext } := by
  rw [State.detectorWork_eq, State.onDet_det, (s.transferJudge_keeps s.det).2]

theorem State.detectorWork_untouched : Untouched [.det] s (s.detectorWork fresh).1 := by
  rw [State.detectorWork_eq]
  exact untouched_onDet _ s

theorem mem_detectorWork_of_transfer {r : SampleReport} (hr : r ≠ .cause .drift) :
    r ∈ (s.detectorWork fresh).2 ↔ r ∈ s.transferReports := by
  rw [mem_detectorWork_reports]
  exact or_iff_left fun h => hr h.1

theorem drift_mem_detectorWork : .cause .drift ∈ (s.detectorWork fresh).2 ↔
    ∃ b, s.driftBaseline fresh = some b ∧ s.driftReports b = true := by
  rw [mem_detectorWork_reports, mem_transferReports]
  simp

end

/-- R73: a taken episode below the highest level. -/
theorem State.raiseThrottle_effects (s : State) : s.raiseThrottle.det.throttle = s.det.throttle + 1 ∧
    s.raiseThrottle.det.clearTimer = some 0 ∧
    s.raiseThrottle.ticket.current = noted .throttle (s.det.throttle + 1) s.ticket := by
  simp [State.raiseThrottle]

/-! ### The surge window by iteration -/

/-- R68, R69: a start that is not an end opens the window at count 1. -/
theorem State.surgeJudge_start (hstart : s.surgeStarts d = true) (hlow : ¬ s.pLiq < (s.cfg.breakPressure : Int))
    (hwindow : 0 < s.cfg.surgeWindow) :
    s.surgeJudge d = { d with surge := .window, previousPLiq := some s.pLiq, windowCount := 1 } := by
  have hage : s.windowAge d = 0 := if_pos hstart
  rw [State.surgeJudge_eq, State.surgeNext_goes_on (.inl hstart) hlow (hage ▸ hwindow), hage]

/-- R69: the open window with readings that are neither a start nor an end. -/
theorem State.surgeJudge_window (hlow : ¬ s.pLiq < (s.cfg.breakPressure : Int)) (k : Nat) :
    s.surgeJudge { d with surge := .window, previousPLiq := some s.pLiq, windowCount := k } =
      if k < s.cfg.surgeWindow then { d with surge := .window, previousPLiq := some s.pLiq, windowCount := k + 1 }
      else { d with surge := .armed, previousPLiq := some s.pLiq, windowCount := 0 } := by
  have hstart : ¬ s.surgeStarts { d with surge := .window, previousPLiq := some s.pLiq, windowCount := k } = true := by
    rw [State.surgeStarts_iff]
    rintro ⟨v, hv, hdrop⟩
    obtain rfl := Option.some.inj hv
    omega
  have hage : s.windowAge { d with surge := .window, previousPLiq := some s.pLiq, windowCount := k } = k := if_neg hstart
  rw [State.surgeJudge_eq]
  by_cases hk : k < s.cfg.surgeWindow
  · rw [State.surgeNext_goes_on (.inr rfl) hlow (by rwa [hage]), hage, if_pos hk]
  · rw [State.surgeNext_ends (.inr rfl) (.inr (by rw [hage]; exact Nat.not_lt.mp hk)), if_neg hk]

theorem State.surgeJudge_iterate (hstart : s.surgeStarts d = true) (hlow : ¬ s.pLiq < (s.cfg.breakPressure : Int)) {k : Nat}
    (hk : k + 1 ≤ s.cfg.surgeWindow) : s.surgeJudge^[k + 1] d =
      { d with surge := .window, previousPLiq := some s.pLiq, windowCount := k + 1 } := by
  induction k with
  | zero => exact State.surgeJudge_start hstart hlow (by omega)
  | succ k ih =>
    rw [Function.iterate_succ_apply', ih (by omega), State.surgeJudge_window hlow, if_pos (by omega)]

/-- Settles O27: each detector by its own condition, the taken episode, and the window by iteration. -/
theorem detectorsJudgeEachSample : Obligations.DetectorsJudgeEachSample := by
  intro s fresh t reports d p drawing starts open_ count low flashing episode out drifts
  have ht : t.det = _ := s.detectorWork_det fresh
  have hstarts : s.surgeStarts d = true ↔ starts := s.surgeStarts_iff d
  have hopen : (s.surgeStarts d = true ∨ d.surge = .window) ↔ open_ := or_congr_left hstarts
  have hcount : s.windowAge d = count := by
    rw [State.windowAge, State.surgeStarts_eq]
    rfl
  have hflashing : s.flashing = true ↔ flashing := s.flashing_iff
  have hepisode : (s.seq.phase = .push ∧ s.episode d = true) ↔ episode := by
    rw [State.episode_iff, hflashing]
  have hdrifts := s.drifts_iff fresh
  have hout : ∀ b, outOfPlace s.cfg.driftThreshold b s.axes = true ↔ out b := fun b => outOfPlace_iff _ _ _
  refine ⟨s.detectorWork_untouched fresh, ?_, ?_, fun hdraw => ?_, ?_, fun hdraw => ?_, ?_, ?_, fun hp => ?_,
    fun b hb hruns => ?_, fun hidle => ?_, s.raiseThrottle_effects, fun hp => ?_, fun hp => if_neg hp,
    fun hstart hlow hwindow => ?_⟩
  · rw [ht]
    exact (s.transferJudge_keeps d).1
  · rw [mem_detectorWork_of_transfer _ _ (by decide), mem_transferReports, State.excessReports_iff]
    simp [drawing, d]
  · rw [ht]
    exact (State.transferJudge_drawing hdraw d).1
  · rw [mem_detectorWork_of_transfer _ _ (by decide), mem_transferReports, State.breakReports_iff, hopen]
    simp [drawing, low, p, State.pLiq]
  · obtain ⟨_, hsurge, hage, hprevious⟩ := State.transferJudge_drawing hdraw d
    rw [ht]
    refine ⟨hprevious, fun hshut => ?_, fun ho hend => ?_, fun ho hlow hlt => ?_⟩
    · rw [State.surgeNext_shut (fun h => hshut (hopen.mp h))] at hsurge hage
      exact ⟨hsurge, hage⟩
    · rw [State.surgeNext_ends (hopen.mpr ho) (hcount ▸ hend)] at hsurge hage
      exact ⟨hsurge, hage⟩
    · rw [State.surgeNext_goes_on (hopen.mpr ho) hlow (hcount ▸ hlt), hcount] at hsurge hage
      exact ⟨hsurge, hage⟩
  · rw [mem_detectorWork_of_transfer _ _ (by decide), mem_transferReports, ← hepisode]
    simp [d, and_assoc]
  · rw [mem_detectorWork_of_transfer _ _ (by decide), mem_transferReports, ← hepisode]
    simp [d, and_assoc]
  · rw [ht, State.transferJudge_push hp]
    refine ⟨fun hsteady => ?_, fun hflash => ?_⟩
    · have hnot : ¬ s.flashing = true := fun h => hsteady (hflashing.mp h)
      exact ⟨if_neg hnot, if_neg hnot⟩
    · have hyes := hflashing.mpr hflash
      exact ⟨if_pos hyes, if_pos hyes⟩
  · have hbase : s.driftBaseline fresh = some b := (State.driftBaseline_runs (hdrifts.mpr hruns)).trans hb
    rw [drift_mem_detectorWork, ht, hbase]
    refine ⟨fun ho => ⟨?_, ?_⟩, fun ho => ⟨?_, ?_⟩⟩
    · exact if_pos ((hout b).mpr ho)
    · simp [State.driftReports, (hout b).mpr ho, d]
    · exact if_neg fun h => ho ((hout b).mp h)
    · simp [State.driftReports, Bool.eq_false_iff.mpr fun h => ho ((hout b).mp h)]
  · have hnone : s.driftBaseline fresh = none := State.driftBaseline_none (hidle.imp_right fun h k => h (hdrifts.mp k))
    rw [drift_mem_detectorWork, ht, hnone]
    exact ⟨rfl, by simp⟩
  · have hhold := s.enterHold_entered (some .push) .flashing
    have htake : s.takeReport .hold = s.enterHold (some .push) .flashing := if_pos hp
    have hseq := hhold.seq
    rw [htake]
    exact ⟨by rw [hseq], by rw [hseq], by rw [hseq], hhold.ticket⟩
  · intro window
    refine ⟨fun k hone hk => ?_, ?_⟩
    · obtain ⟨k, rfl⟩ := Nat.exists_eq_add_one.mpr hone
      exact State.surgeJudge_iterate (hstarts.mpr hstart) hlow hk
    · obtain ⟨n, hn⟩ := Nat.exists_eq_add_one.mpr hwindow
      have hlast := State.surgeJudge_iterate (hstarts.mpr hstart) hlow hn.ge
      rw [Function.iterate_succ_apply', hn, hlast, State.surgeJudge_window hlow, if_neg (by omega)]
      rfl

end Sys2Proof.Machine
end


section
/-!
PROOFS. The valve driver at a sample event (O30).
-/

namespace Sys2Proof.Machine

open Sys2Proof

variable {s t : State}

/-! ## Trim and slew (R84, R87) -/

theorem trimStep_above (c : Settings) {flow grant : Nat} (trim : Nat) (h : grant < flow) :
    trimStep c flow grant trim = min 1000 (trim + c.trimStep) := if_pos h

theorem trimStep_below (c : Settings) {flow grant : Nat} (trim : Nat) (h : flow < grant - grant / 8) :
    trimStep c flow grant trim = trim - c.trimStep := by
  rw [trimStep, if_neg (by omega), if_pos h]

theorem trimStep_within (c : Settings) {flow grant : Nat} (trim : Nat) (hlow : grant - grant / 8 ≤ flow)
    (hhigh : flow ≤ grant) : trimStep c flow grant trim = trim := by
  rw [trimStep, if_neg (by omega), if_neg (by omega)]

theorem trimStep_le (c : Settings) (flow grant : Nat) {trim : Nat} (h : trim ≤ 1000) :
    trimStep c flow grant trim ≤ 1000 := by
  unfold trimStep
  split
  · exact Nat.min_le_left _ _
  · split <;> omega

theorem slewTo_bounds (limit target opening : Nat) :
    slewTo limit target opening ≤ target ∧ slewTo limit target opening ≤ opening + limit := by
  unfold slewTo
  split <;> omega

theorem slewTo_falls {target opening : Nat} (limit : Nat) (h : target ≤ opening) : slewTo limit target opening = target :=
  if_neg (Nat.not_lt.mpr h)

theorem slewTo_rises {limit target opening : Nat} (h : opening + limit ≤ target) :
    slewTo limit target opening = opening + limit := by
  unfold slewTo
  split <;> omega

/-! ## Supervision (R88 to R91) -/

theorem becameOverdue_closed_iff (closedSwitch : Bool) (c : Channel) :
    becameOverdue c (superviseClosed closedSwitch c) = true ↔ c.state = .closed ∧ closedSwitch = false := by
  obtain ⟨state, timer⟩ := c
  cases state <;> cases closedSwitch <;> simp [becameOverdue, superviseClosed]

theorem becameOverdue_lv_iff (openSwitch closedSwitch : Bool) (c : Channel) :
    becameOverdue c (superviseLv openSwitch closedSwitch c) = true ↔
      (c.state = .closed ∧ closedSwitch = false) ∨ (c.state = .opened ∧ openSwitch = false) := by
  obtain ⟨state, timer⟩ := c
  cases state <;> cases openSwitch <;> cases closedSwitch <;> simp [becameOverdue, superviseLv, superviseClosed]

theorem ValveDriver.faulty_iff (d : Twelve Debouncer) (v : ValveDriver) : v.faulty d = true ↔
    (v.lv.state = .closed ∧ d.lvClosed.isActive = false) ∨ (v.lv.state = .opened ∧ d.lvOpen.isActive = false) ∨
    (v.sv.state = .closed ∧ d.svClosed.isActive = false) ∨ (v.rv.state = .closed ∧ d.rvClosed.isActive = false) ∨
    (d.lvOpen.isActive = true ∧ d.lvClosed.isActive = true) := by
  simp only [ValveDriver.faulty, ValveDriver.supervise, Bool.or_eq_true, becameOverdue_lv_iff, becameOverdue_closed_iff,
    Bool.and_eq_true, or_assoc]

theorem ValveDriver.lvConfirms_iff (d : Twelve Debouncer) (v : ValveDriver) :
    v.lvConfirms d = true ↔ v.lv.state ≠ .closed ∧ (v.supervise d).lv.state = .closed := by
  simp [ValveDriver.lvConfirms]

theorem valve_mem_superviseReports (s : State) :
    .cause .valve ∈ s.superviseReports ↔ s.valve.faulty s.input.debounce = true := by
  unfold State.superviseReports
  cases s.valve.faulty s.input.debounce <;> cases s.valve.lvConfirms s.input.debounce <;> decide

theorem lvClosed_mem_superviseReports (s : State) :
    .lvClosed ∈ s.superviseReports ↔ s.valve.lvConfirms s.input.debounce = true := by
  unfold State.superviseReports
  cases s.valve.faulty s.input.debounce <;> cases s.valve.lvConfirms s.input.debounce <;> decide

/-! ## The unit at a sample event (R82, R93) -/

/-- R82: the part before step (4), supervision. -/
def State.driven (s : State) : State := if s.seq.phase = .tripped then s else s.stepTrim.moveValves

theorem State.valveWork_eq (hoff : s.seq.phase ≠ .offline) : s.valveWork = s.driven.superviseValves := by
  rw [State.valveWork, if_neg hoff, State.driven]
  split <;> rfl

theorem State.driven_tripped (h : s.seq.phase = .tripped) : s.driven = s := if_pos h

theorem State.stepTrim_eq (s : State) : s.stepTrim = s.onValve (fun v => { v with
    trim := if s.seq.phase = .push then trimStep s.cfg s.input.flow s.share.grant.header v.trim else v.trim }) := by
  unfold State.stepTrim
  split <;> rfl

/-- R85: the SV target with the trim of this sample event. -/
theorem State.stepTrim_svWanted (s : State) : s.stepTrim.svWanted =
    if s.seq.phase = .push ∧ s.share.grant.header ≠ 0 then
      min 1000 (1000 * s.share.grant.supply / s.cfg.svRating) -
        trimStep s.cfg s.input.flow s.share.grant.header s.valve.trim
    else 0 := by
  rw [State.stepTrim_eq, State.svWanted]
  by_cases hp : s.seq.phase = .push
  · by_cases hh : s.share.grant.header = 0 <;> simp [hp, hh, baseOpening]
  · simp [hp]

theorem State.stepTrim_rvWanted (s : State) : s.stepTrim.rvWanted =
    if s.seq.phase = .recover then min 1000 (1000 * s.share.grant.ret / s.cfg.rvRating) else 0 := by
  rw [State.stepTrim_eq, State.rvWanted]
  rfl

theorem State.driven_valve (h : s.seq.phase ≠ .tripped) : s.driven.valve =
    ValveDriver.drive s.cfg.slewLimit s.stepTrim.svWanted s.stepTrim.rvWanted { s.valve with
      trim := if s.seq.phase = .push then trimStep s.cfg s.input.flow s.share.grant.header s.valve.trim
        else s.valve.trim } := by
  rw [State.driven, if_neg h, State.moveValves, State.onValve_valve]
  conv_lhs => rw [State.stepTrim_eq]
  rw [State.stepTrim_eq]
  rfl

theorem State.driven_untouched (s : State) : Untouched [.valve] s s.driven := by
  unfold State.driven
  split
  · exact untouched_refl _ s
  · rw [State.moveValves, State.stepTrim_eq]
    intro b hb
    cases b <;> simp_all [Block.same]

/-- R93: an opening that stands has its channel left. -/
theorem moveChannel_same (n : Nat) (c : Channel) : moveChannel n n c = c := by
  rw [moveChannel, if_neg (by omega), if_neg (by omega)]

theorem Debouncer.isActive_eq_decide (d : Debouncer) : d.isActive = decide (d.stable = .active) := by
  rw [Bool.eq_iff_iff, Debouncer.isActive_iff, decide_eq_true_iff]

/-- R82 (3), R87: an opening at a sample event, which moves toward its target outside "TRIPPED". -/
def State.movedOpening (s : State) (target opening : Nat) : Nat :=
  if s.seq.phase = .tripped then opening else slewTo s.cfg.slewLimit target opening

/-- R82, R93: commands, openings and channels before supervision. -/
theorem State.driven_moves (s : State) :
    s.driven.valve.lvCommand = s.valve.lvCommand ∧ s.driven.valve.bvCommand = s.valve.bvCommand ∧
    s.driven.valve.svOpening = s.movedOpening s.driven.valve.svTarget s.valve.svOpening ∧
    s.driven.valve.rvOpening = s.movedOpening s.driven.valve.rvTarget s.valve.rvOpening ∧
    s.driven.valve.lv = s.valve.lv ∧
    s.driven.valve.sv = moveChannel s.valve.svOpening s.driven.valve.svOpening s.valve.sv ∧
    s.driven.valve.rv = moveChannel s.valve.rvOpening s.driven.valve.rvOpening s.valve.rv := by
  by_cases h : s.seq.phase = .tripped
  · rw [State.driven_tripped h, State.movedOpening, State.movedOpening, if_pos h, if_pos h, moveChannel_same,
      moveChannel_same]
    exact ⟨rfl, rfl, rfl, rfl, rfl, rfl, rfl⟩
  · rw [State.driven_valve h, State.movedOpening, State.movedOpening, if_neg h, if_neg h]
    exact ⟨rfl, rfl, rfl, rfl, rfl, rfl, rfl⟩

/-- R82 (1), (2): trim and targets outside "TRIPPED". -/
theorem State.driven_aims (h : s.seq.phase ≠ .tripped) :
    s.driven.valve.trim = (if s.seq.phase = .push then
      trimStep s.cfg s.input.flow s.share.grant.header s.valve.trim else s.valve.trim) ∧
    s.driven.valve.svTarget = s.stepTrim.svWanted ∧ s.driven.valve.rvTarget = s.stepTrim.rvWanted := by
  rw [State.driven_valve h]
  exact ⟨rfl, rfl, rfl⟩

/-- Settles O30: trim, slew and supervision by their tables, then the whole work with its reports. -/
theorem valvesMoveAndAreSupervised : Obligations.ValvesMoveAndAreSupervised := by
  refine ⟨fun c flow grant trim => ⟨trimStep_above c trim, trimStep_below c trim, trimStep_within c trim,
      trimStep_le c flow grant⟩,
    fun limit target opening => ⟨(slewTo_bounds limit target opening).1, (slewTo_bounds limit target opening).2,
      slewTo_falls limit, slewTo_rises⟩, fun isOpen isClosed timer => ⟨fun supervise hs => ?_, rfl, rfl, rfl, rfl, rfl, rfl, rfl⟩,
    fun s hoff => ?_⟩
  · simp only [List.mem_cons, List.not_mem_nil, or_false] at hs
    rcases hs with rfl | rfl <;> exact ⟨rfl, rfl, rfl, rfl, rfl, rfl⟩
  · intro t v g active lvOpen lvClosed svClosed rvClosed trip trim sv rv commanded
    have hwork := State.valveWork_eq hoff
    have ht : t = s.driven.onValve (ValveDriver.supervise s.driven.input.debounce) := congrArg Prod.fst hwork
    have hreports : s.valveWork.2 = s.driven.superviseReports := congrArg Prod.snd hwork
    have hinput : s.driven.input = s.input := s.driven_untouched .input (by decide)
    have hactive : ∀ d : Debouncer, d.isActive = active d := Debouncer.isActive_eq_decide
    have hvalve : t.valve = s.driven.valve.supervise s.input.debounce := by rw [ht, State.onValve_valve, hinput]
    obtain ⟨hlvc, hbvc, hsvo, hrvo, hlv, hsv, hrv⟩ := s.driven_moves
    have hsvTarget : s.driven.valve.svTarget = t.valve.svTarget := by rw [hvalve]; rfl
    have hrvTarget : s.driven.valve.rvTarget = t.valve.rvTarget := by rw [hvalve]; rfl
    have hsvMoved : s.driven.valve.svOpening = sv := by rw [hsvo, hsvTarget]; rfl
    have hrvMoved : s.driven.valve.rvOpening = rv := by rw [hrvo, hrvTarget]; rfl
    have hsvChannel : s.driven.valve.sv = commanded v.svOpening sv v.sv := by rw [hsv, hsvMoved]; rfl
    have hrvChannel : s.driven.valve.rv = commanded v.rvOpening rv v.rv := by rw [hrv, hrvMoved]; rfl
    have hlvNow : t.valve.lv = superviseLv lvOpen lvClosed v.lv := by
      rw [hvalve, ValveDriver.supervise, hlv, hactive, hactive]
    refine ⟨?_, by rw [hvalve]; exact hlvc, by rw [hvalve]; exact hbvc, fun htrip => ?_, fun htrip => ?_,
      by rw [hvalve]; exact hsvMoved, by rw [hvalve]; exact hrvMoved, hlvNow, ?_, ?_, ?_, ?_⟩
    · rw [ht]
      refine s.driven_untouched.trans fun b hb => ?_
      cases b <;> simp_all [Block.same]
    · rw [hvalve, State.driven_tripped htrip]
      exact ⟨rfl, rfl, rfl⟩
    · obtain ⟨htrim, hsvt, hrvt⟩ := State.driven_aims htrip
      rw [State.stepTrim_svWanted] at hsvt
      rw [State.stepTrim_rvWanted] at hrvt
      rw [hvalve]
      refine ⟨htrim, hsvt.trans ?_, hrvt⟩
      split
      · next h => rw [show trim = trimStep s.cfg s.input.flow g.header v.trim from if_pos h.1]
      · rfl
    · rw [hvalve]
      exact congrArg₂ superviseClosed (hactive _) hsvChannel
    · rw [hvalve]
      exact congrArg₂ superviseClosed (hactive _) hrvChannel
    · rw [hreports, valve_mem_superviseReports, ValveDriver.faulty_iff, hinput, hlv, hsvChannel, hrvChannel, hactive, hactive,
        hactive, hactive]
    · rw [hreports, lvClosed_mem_superviseReports, ValveDriver.lvConfirms_iff, hlv, hinput, ← hvalve]

end Sys2Proof.Machine
end


section
/-!
PROOFS. The announce timers and the prompt test (O37).
-/

namespace Sys2Proof.Machine

open Sys2Proof

variable {s t : State} {l : LineController}

/-! ## An ANNOUNCE in the list (R109, R110) -/

theorem OutFrame.kind_le_of_place_lt {f g : OutFrame} (h : f.place < g.place) : f.kind ≤ g.kind :=
  Nat.not_lt.mp fun k => Nat.lt_asymm h (OutFrame.place_lt_of_kind_lt k)

/-- In an ordered list the frames of kinds up to one stand before all others. -/
theorem filter_kind_append {frames : List OutFrame} (h : frames.Pairwise (fun a b => a.place < b.place)) (k : Nat) :
    frames.filter (fun g => decide (g.kind ≤ k)) ++ frames.filter (fun g => decide (k < g.kind)) = frames := by
  induction frames with
  | nil => rfl
  | cons f rest ih =>
    obtain ⟨hf, hrest⟩ := List.pairwise_cons.mp h
    by_cases hk : f.kind ≤ k
    · rw [List.filter_cons_of_pos (by simpa using hk), List.filter_cons_of_neg (by simpa using hk), List.cons_append,
        ih hrest]
    · have hall : ∀ g ∈ f :: rest, k < g.kind := by
        intro g hg
        rcases List.mem_cons.mp hg with rfl | hg
        · exact Nat.not_le.mp hk
        · exact (Nat.not_le.mp hk).trans_le (OutFrame.kind_le_of_place_lt (hf g hg))
      have hnone : (f :: rest).filter (fun g => decide (g.kind ≤ k)) = [] :=
        List.filter_eq_nil_iff.mpr fun g hg => by simpa using hall g hg
      have hsome : (f :: rest).filter (fun g => decide (k < g.kind)) = f :: rest :=
        List.filter_eq_self.mpr fun g hg => by simpa using hall g hg
      rw [hnone, hsome, List.nil_append]

theorem filter_insertFrame {frames : List OutFrame} (h : frames.Pairwise (fun a b => a.place < b.place)) (f : OutFrame) :
    (insertFrame f frames).filter (fun g => decide (g ≠ f)) = frames.filter (fun g => decide (g ≠ f)) := by
  conv_rhs => rw [← filter_kind_append h f.kind]
  rw [insertFrame, List.filter_append, List.filter_append, List.filter_cons_of_neg (by simp)]

/-- R110: an ordered list with an ANNOUNCE queued holds one, and the others as before. -/
theorem LineController.add_one {f : OutFrame} (h : l.outgoing.Pairwise (fun a b => a.place < b.place)) :
    (l.add f).outgoing.count f = 1 ∧
      (l.add f).outgoing.filter (fun g => decide (g ≠ f)) = l.outgoing.filter (fun g => decide (g ≠ f)) := by
  have hnodup : l.outgoing.Nodup := h.imp fun hlt heq => Nat.ne_of_lt hlt (congrArg OutFrame.place heq)
  refine ⟨LineController.count_add_same (List.nodup_iff_count_le_one.mp hnodup f), ?_⟩
  rw [LineController.add_outgoing]
  split
  · rfl
  · exact filter_insertFrame h f

theorem LineController.add_eq (f : OutFrame) (l : LineController) :
    l.add f = { l with outgoing := (l.add f).outgoing } := by
  unfold LineController.add
  split <;> rfl

theorem LineController.queueAnnounce_taken (h : l.takesRequests = true) : l.queueAnnounce = l.add .announce := if_pos h

/-- R110: the timers have no part in a queue request. -/
theorem LineController.queueAnnounce_of_same {m : LineController} (h : l.takesRequests = true)
    (hstate : m.state = l.state) (hout : m.outgoing = l.outgoing) :
    m.queueAnnounce = { m with outgoing := (l.add .announce).outgoing } := by
  rw [LineController.queueAnnounce_taken ((LineController.takesRequests_congr hstate).trans h), LineController.add_eq,
    LineController.add_outgoing, LineController.add_outgoing, hout]

/-! ## The timers (R112, R114) -/

theorem exec_announceTimerExpiry {n : Nat} (ht : s.line.announceTimer = some n) (hn : s.cfg.announcePeriod ≤ n) :
    exec .announceTimerExpiry s = .next (s.onLine (fun l => { l with announceTimer := none }.queueAnnounce)) :=
  congrArg Host.Outcome.next (if_pos ((reached_iff _ _).mpr ⟨n, ht, hn⟩))

theorem LineController.spacingOver_iff {n spacing : Nat} (ht : l.spacingTimer = some n) :
    l.spacingOver spacing = true ↔ spacing ≤ n := by
  rw [LineController.spacingOver, ht, reached_some, decide_eq_true_iff]

theorem exec_spacingTimeReached {n : Nat} (ht : s.line.spacingTimer = some n) (hn : spacingTime s.cfg ≤ n) :
    exec .spacingTimeReached s = .next (s.onLine (LineController.spacingReached (spacingTime s.cfg))) :=
  congrArg Host.Outcome.next (if_pos ((LineController.spacingOver_iff ht).mpr hn))

theorem LineController.spacingReached_asked {spacing : Nat} (h : l.promptRequest = true) : l.spacingReached spacing =
    { l with spacingTimer := some spacing, promptRequest := false }.queueAnnounce := if_pos h

theorem LineController.spacingReached_unasked {spacing : Nat} (h : l.promptRequest = false) :
    l.spacingReached spacing = { l with spacingTimer := some spacing } := by
  simp [LineController.spacingReached, h]

/-! ## The prompt test (R113) -/

theorem State.promptTest_unmoved (h : s.promptCondition = false) : s.promptTest = s := by
  simp [State.promptTest, h]

theorem State.promptTest_waiting (h : OutFrame.announce ∈ s.line.outgoing) : s.promptTest = s := by
  have hprompt : LineController.prompt (spacingTime s.cfg) s.line = s.line := if_pos (by simpa using h)
  unfold State.promptTest State.onLine
  rw [hprompt, ite_self]

theorem State.promptTest_over (hreq : s.line.takesRequests = true) (hmoved : s.promptCondition = true)
    (hout : OutFrame.announce ∉ s.line.outgoing) (hover : s.line.spacingOver (spacingTime s.cfg) = true) :
    s.promptTest = s.onLine (LineController.add .announce) := by
  have hprompt : LineController.prompt (spacingTime s.cfg) s.line = s.line.add .announce := by
    rw [LineController.prompt, if_neg (by simpa using hout), if_pos hover, LineController.queueAnnounce_taken hreq]
  rw [State.promptTest, if_pos (by rw [hreq, hmoved]; rfl), State.onLine, State.onLine, hprompt]

/-- R41, R113: where the test is made at a change of a demand. -/
theorem State.promptOnMove_eq (before : Pools Nat) (s : State) :
    s.promptOnMove before = if s.demands = before then s else s.promptTest := rfl

/-- R82, R113: the test at a phase change comes last. -/
theorem State.enterPhase_tests (p : Phase) (s : State) : ∃ u, s.enterPhase p = u.promptTest ∧
    Untouched [.seq, .det, .valve, .share, .ticket] s u ∧ u.seq.phase = p := by
  refine ⟨_, rfl, fun b hb => ?_, rfl⟩
  cases b <;> simp_all [Block.same]

theorem State.det_note_untouched (f : DetectorUnit → DetectorUnit) (k : NoteKind) (v : Nat) (s : State) :
    Untouched [.det, .ticket] s ((s.onDet f).note k v) :=
  ((untouched_onDet f s).weaken (by decide)).trans ((State.note_untouched _ k v).weaken (by decide))

/-- R73, R74: the part with its new level, before the prompt test. -/
def State.throttleRaised (s : State) : State :=
  (s.onDet (fun d => { d with throttle := d.throttle + 1, clearTimer := some 0 })).note .throttle (s.det.throttle + 1)

def State.throttleLowered (s : State) : State :=
  (s.onDet (fun d => { d with
      throttle := d.throttle - 1
      clearTimer := if 1 < d.throttle then some 0 else none })).note .restore (s.det.throttle - 1)

theorem untouched_onInput (f : InputUnit → InputUnit) (s : State) : Untouched [.input] s (s.onInput f) := by
  intro b hb
  cases b <;> simp_all [Block.same]

theorem takesRequests_iff : l.takesRequests = true ↔ l.state ≠ .off ∧ l.state ≠ .silent := by
  simp [LineController.takesRequests]

/-- Settles O37: the two timers, the prompt test by its conditions, and the places where it is made. -/
theorem timersAndPromptTestQueueOneAnnounce : Obligations.TimersAndPromptTestQueueOneAnnounce := by
  intro s n spacing oneMore moved tested
  have hmoved : s.promptCondition = true ↔ moved := s.promptCondition_iff
  have hone : OutgoingOrdered s → oneMore (s.line.add .announce).outgoing := fun h => LineController.add_one h.2.1
  refine ⟨fun hordered hreq => ⟨fun ht hn => ?_, fun ht hn => ⟨fun hasked => ?_, fun hasked => ?_⟩⟩, fun hidle => ?_,
    fun hoff hsilent hm hout ht => ⟨fun hn => ?_, fun hn hordered => ?_⟩, fun p => s.enterPhase_tests p, ?_,
    fun m hp ht hm hlevel => ?_, fun counts levels => ?_⟩
  · refine ⟨(s.line.add .announce).outgoing, hone hordered, ?_⟩
    rw [exec_announceTimerExpiry ht hn, State.onLine, LineController.queueAnnounce_of_same hreq] <;> rfl
  · refine ⟨(s.line.add .announce).outgoing, hone hordered, ?_⟩
    rw [exec_spacingTimeReached ht hn, State.onLine, LineController.spacingReached_asked hasked,
      LineController.queueAnnounce_of_same hreq] <;> rfl
  · rw [exec_spacingTimeReached ht hn, State.onLine, LineController.spacingReached_unasked hasked]
    rfl
  · rcases hidle with h | h | h | h
    · exact State.promptTest_of_refuses (by simp [LineController.takesRequests, h])
    · exact State.promptTest_of_refuses (by simp [LineController.takesRequests, h])
    · exact State.promptTest_unmoved (Bool.eq_false_iff.mpr fun k => h (hmoved.mp k))
    · exact State.promptTest_waiting h
  · have hbelow : s.line.spacingOver (spacingTime s.cfg) = false := Bool.eq_false_iff.mpr fun k =>
      Nat.not_le.mpr hn ((LineController.spacingOver_iff ht).mp k)
    rw [State.promptTest_below (takesRequests_iff.mpr ⟨hoff, hsilent⟩) hout hbelow, if_pos (hmoved.mpr hm)]
    rfl
  · refine ⟨(s.line.add .announce).outgoing, hone hordered, ?_⟩
    rw [State.promptTest_over (takesRequests_iff.mpr ⟨hoff, hsilent⟩) (hmoved.mpr hm) hout
      ((LineController.spacingOver_iff ht).mpr hn), State.onLine, LineController.add_eq]
  · exact ⟨s.throttleRaised, rfl, State.det_note_untouched _ _ _ s, rfl⟩
  · exact ⟨s.throttleLowered, congrArg Host.Outcome.next (if_pos ⟨hp, (reached_iff _ _).mpr ⟨m, ht, hm⟩, hlevel⟩),
      State.det_note_untouched _ _ _ s, rfl⟩
  · exact ⟨s.onInput (InputUnit.sample s.cfg counts levels), rfl, untouched_onInput _ s, rfl⟩

end Sys2Proof.Machine
end


section
/-!
PROOFS. Demands, participants and the water fill (O43).
-/

namespace Sys2Proof.Machine

open Sys2Proof

variable {s t : State}

/-! ## Current demands (R41) -/

theorem State.demand_supply_le (s : State) : s.demand .supply ≤ s.cfg.vPush := by
  simp only [State.demand]
  split
  · exact le_rfl
  · exact Nat.zero_le _

/-- R41: the level's part of the liquid demand, in whole numbers. -/
theorem throttled_cast (demand throttle step : Nat) :
    ((demand * (100 - throttle * step) / 100 : Nat) : Int) =
      max 0 ((demand : Int) * (100 - (throttle : Int) * (step : Int)) / 100) := by
  by_cases h : throttle * step ≤ 100
  · rw [max_eq_right]
    · push_cast [Nat.cast_sub h]
      rfl
    · have hle : (throttle : Int) * (step : Int) ≤ 100 := by exact_mod_cast h
      exact Int.ediv_nonneg (mul_nonneg (Int.natCast_nonneg _) (by omega)) (by decide)
  · have hlt : 100 < (throttle : Int) * (step : Int) := by exact_mod_cast Nat.not_le.mp h
    have hneg : (demand : Int) * (100 - (throttle : Int) * (step : Int)) ≤ 0 :=
      mul_nonpos_of_nonneg_of_nonpos (Int.natCast_nonneg _) (by omega)
    have hzero : 100 - throttle * step = 0 := by omega
    rw [hzero, max_eq_left (Int.ediv_nonpos_of_nonpos_of_neg hneg (by decide))]
    simp

theorem State.demand_header_le (s : State) : s.demand .header ≤ s.cfg.lPush := by
  simp only [State.demand]
  split
  · exact Nat.div_le_of_le_mul (by rw [Nat.mul_comm]; exact Nat.mul_le_mul_right _ (Nat.sub_le _ _))
  · exact Nat.zero_le _

theorem State.demand_ret_le (s : State) : s.demand .ret ≤ s.cfg.vRec := by
  simp only [State.demand]
  split
  · split
    · exact Nat.zero_le _
    · exact Nat.min_le_left _ _
  · exact Nat.zero_le _

/-- R41: the vapour demand in "RECOVER" above P_res. -/
theorem State.demand_ret_eq (s : State) : (s.demand .ret : Int) =
    if s.seq.phase = .recover ∧ 0 < s.input.sensors.pCar.value - (s.cfg.pRes : Int) then
      min (s.cfg.vRec : Int) ((s.cfg.vRec : Int) * (s.input.sensors.pCar.value - (s.cfg.pRes : Int)) / (s.cfg.pBand : Int))
    else 0 := by
  simp only [State.demand]
  by_cases hp : s.seq.phase = .recover
  · by_cases habove : 0 < s.input.sensors.pCar.value - (s.cfg.pRes : Int)
    · have hcast : (((s.pCar - (s.cfg.pRes : Int)).toNat : Nat) : Int) = s.input.sensors.pCar.value - (s.cfg.pRes : Int) :=
        Int.toNat_of_nonneg habove.le
      rw [if_pos hp, if_neg (show ¬ s.pCar ≤ _ from fun h => by rw [State.pCar] at h; omega), if_pos ⟨hp, habove⟩]
      push_cast [hcast]
      rfl
    · rw [if_pos hp, if_pos (show s.pCar ≤ _ by rw [State.pCar]; omega), if_neg fun h => habove h.2]
      rfl
  · rw [if_neg hp, if_neg fun h => hp h.1]
    rfl

/-! ## Effective demand, capacity, participants (R136 to R138) -/

theorem effectiveDemand_le (demand : Nat) (ring : List Nat) :
    effectiveDemand demand ring ≤ demand ∧ ∀ v ∈ ring, effectiveDemand demand ring ≤ v := by
  induction ring generalizing demand with
  | nil => exact ⟨le_rfl, by simp⟩
  | cons w ring ih =>
    obtain ⟨hle, hall⟩ := ih (min demand w)
    refine ⟨hle.trans (min_le_left _ _), fun v hv => ?_⟩
    rcases List.mem_cons.mp hv with rfl | hv
    · exact hle.trans (min_le_right _ _)
    · exact hall v hv

theorem effectiveDemand_mem (demand : Nat) (ring : List Nat) :
    effectiveDemand demand ring = demand ∨ effectiveDemand demand ring ∈ ring := by
  induction ring generalizing demand with
  | nil => exact .inl rfl
  | cons w ring ih =>
    rcases ih (min demand w) with h | h
    · rcases min_choice demand w with hmin | hmin
      · exact .inl (h.trans hmin)
      · exact .inr (List.mem_cons.mpr (.inl (h.trans hmin)))
    · exact .inr (List.mem_cons.mpr (.inr h))

theorem lapsedDrawers_eq (ps : List Peer) (p : Pool) : lapsedDrawers ps p = (ps.filter (fun r =>
    decide (r.cls = .station ∧ r.liveness = .lapsed ∧ codeDraws r.lastPhase p = true))).length := by
  unfold lapsedDrawers
  congr 2
  funext r
  rw [Bool.eq_iff_iff]
  simp [and_assoc]

theorem State.participants_eq (s : State) (p : Pool) : s.participants p =
    ⟨effectiveDemand (s.demand p) (s.share.rings.get p), s.loader.ownAddress⟩ ::
      (s.peers.filter (fun r => decide (r.cls = .station ∧ (r.liveness = .current ∨ r.liveness = .stale)))).map (fun r =>
        ⟨if r.islandFlag = true then min (r.demands.get p) (s.cfg.allowance.get p) else r.demands.get p, r.address⟩) := by
  have hlive : ∀ r : Peer, r.liveness ≠ .lapsed ↔ r.liveness = .current ∨ r.liveness = .stale := fun r => by
    cases r.liveness <;> decide
  rw [State.participants]
  congr 1
  induction s.peers with
  | nil => rfl
  | cons r rest ih =>
    by_cases hr : r.cls = .station ∧ (r.liveness = .current ∨ r.liveness = .stale)
    · rw [List.filter_cons_of_pos (by simpa using hr), List.map_cons, ← ih,
        List.filterMap_cons_some (by rw [peerParticipant, if_pos ⟨hr.1, (hlive r).mpr hr.2⟩])]
    · rw [List.filter_cons_of_neg (by simpa using hr), ← ih,
        List.filterMap_cons_none (by rw [peerParticipant, if_neg fun h => hr ⟨h.1, (hlive r).mp h.2⟩])]

/-! ## The order of the participants (R139) -/

/-- R139: by demand, then by address. -/
def Participant.atMost (a b : Participant) : Prop := a.demand < b.demand ∨ (a.demand = b.demand ∧ a.address ≤ b.address)

theorem Participant.before_iff (a b : Participant) : a.before b = true ↔ a.atMost b := by
  simp [Participant.before, Participant.atMost]

theorem Participant.atMost_of_not_before {a b : Participant} (h : a.before b = false) : b.atMost a := by
  have hnot : ¬ a.atMost b := fun k => Bool.false_ne_true (h.symm.trans ((Participant.before_iff a b).mpr k))
  unfold Participant.atMost at *
  omega

theorem Participant.atMost_trans {a b c : Participant} (h : a.atMost b) (k : b.atMost c) : a.atMost c := by
  unfold Participant.atMost at *
  omega

theorem Participant.demand_le {a b : Participant} (h : a.atMost b) : a.demand ≤ b.demand := by
  unfold Participant.atMost at h
  omega

theorem insertParticipant_perm (a : Participant) (l : List Participant) : (insertParticipant a l).Perm (a :: l) := by
  induction l with
  | nil => exact .refl _
  | cons b rest ih =>
    unfold insertParticipant
    split
    · exact .refl _
    · exact (ih.cons b).trans (.swap a b rest)

theorem orderParticipants_perm (l : List Participant) : (orderParticipants l).Perm l := by
  induction l with
  | nil => exact .refl _
  | cons a rest ih => exact (insertParticipant_perm a _).trans (ih.cons a)

theorem insertParticipant_sorted (a : Participant) {l : List Participant} (h : l.Pairwise Participant.atMost) :
    (insertParticipant a l).Pairwise Participant.atMost := by
  induction l with
  | nil => exact List.pairwise_singleton _ _
  | cons b rest ih =>
    obtain ⟨hb, hrest⟩ := List.pairwise_cons.mp h
    unfold insertParticipant
    cases hab : a.before b with
    | true =>
      have hle := (Participant.before_iff a b).mp hab
      refine List.pairwise_cons.mpr ⟨fun c hc => ?_, h⟩
      rcases List.mem_cons.mp hc with rfl | hc
      · exact hle
      · exact Participant.atMost_trans hle (hb c hc)
    | false =>
      refine List.pairwise_cons.mpr ⟨fun c hc => ?_, ih hrest⟩
      rcases List.mem_cons.mp ((insertParticipant_perm a rest).mem_iff.mp hc) with rfl | hc
      · exact Participant.atMost_of_not_before hab
      · exact hb c hc

theorem orderParticipants_sorted (l : List Participant) : (orderParticipants l).Pairwise Participant.atMost := by
  induction l with
  | nil => exact .nil
  | cons a rest ih => exact insertParticipant_sorted a ih

/-! ## The water fill (R139, R140) -/

theorem waterFill_cons (r : Nat) (a : Participant) (rest : List Participant) : waterFill r (a :: rest) =
    (a, min a.demand (r / (rest.length + 1))) ::
      waterFill (r - min a.demand (r / (rest.length + 1))) rest := rfl

theorem waterFill_fst (r : Nat) (l : List Participant) : (waterFill r l).map Prod.fst = l := by
  induction l generalizing r with
  | nil => rfl
  | cons a rest ih => rw [waterFill_cons, List.map_cons, ih]

theorem waterFill_length (r : Nat) (l : List Participant) : (waterFill r l).length = l.length := by
  rw [← List.length_map (f := Prod.fst), waterFill_fst]

theorem waterFill_sum_le (r : Nat) (l : List Participant) : ((waterFill r l).map Prod.snd).sum ≤ r := by
  induction l generalizing r with
  | nil => exact Nat.zero_le _
  | cons a rest ih =>
    have hhead : min a.demand (r / (rest.length + 1)) ≤ r := (min_le_right _ _).trans (Nat.div_le_self _ _)
    have htail := ih (r - min a.demand (r / (rest.length + 1)))
    rw [waterFill_cons, List.map_cons, List.sum_cons]
    omega

/-- The fill after some participants is the fill of the others with what these leave. -/
theorem waterFill_split {r : Nat} {l : List Participant} {pre rest : List (Participant × Nat)}
    (h : waterFill r l = pre ++ rest) :
    ∃ m, rest = waterFill (r - (pre.map Prod.snd).sum) m ∧ l = pre.map Prod.fst ++ m ∧ (pre.map Prod.snd).sum ≤ r := by
  induction pre generalizing r l with
  | nil => exact ⟨l, h.symm, rfl, Nat.zero_le _⟩
  | cons z pre ih =>
    cases l with
    | nil => exact absurd h (by simp [waterFill])
    | cons a l =>
      rw [waterFill_cons, List.cons_append] at h
      obtain ⟨rfl, htail⟩ := List.cons.inj h
      obtain ⟨m, hrest, hl, hsum⟩ := ih htail
      have hhead : min a.demand (r / (l.length + 1)) ≤ r := (min_le_right _ _).trans (Nat.div_le_self _ _)
      refine ⟨m, ?_, by rw [hl]; rfl, ?_⟩
      · rw [hrest, List.map_cons, List.sum_cons, Nat.sub_sub]
      · rw [List.map_cons, List.sum_cons]
        simp only
        omega

theorem waterFill_head {r : Nat} {l : List Participant} {a : Participant} {x : Nat} {post : List (Participant × Nat)}
    (h : waterFill r l = (a, x) :: post) : x = min a.demand (r / (post.length + 1)) ∧ x ≤ r ∧
      ∃ m, l = a :: m ∧ post = waterFill (r - x) m := by
  cases l with
  | nil => exact absurd h (by simp [waterFill])
  | cons b m =>
    rw [waterFill_cons] at h
    obtain ⟨hhead, rfl⟩ := List.cons.inj h
    obtain ⟨rfl, rfl⟩ := Prod.mk.inj hhead
    rw [waterFill_length]
    exact ⟨rfl, (min_le_right _ _).trans (Nat.div_le_self _ _), m, rfl, rfl⟩

theorem waterFill_le_demand {r : Nat} {l : List Participant} {z : Participant × Nat} (hz : z ∈ waterFill r l) :
    z.2 ≤ z.1.demand := by
  induction l generalizing r with
  | nil => exact absurd hz (by simp [waterFill])
  | cons a rest ih =>
    rw [waterFill_cons] at hz
    rcases List.mem_cons.mp hz with rfl | hz
    · exact min_le_left _ _
    · exact ih hz

/-- R139: the level never falls. -/
theorem level_le_next (r m d : Nat) (hm : 0 < m) : r / (m + 1) ≤ (r - min d (r / (m + 1))) / m := by
  rw [Nat.le_div_iff_mul_le hm]
  have hle : r / (m + 1) * (m + 1) ≤ r := Nat.div_mul_le_self r (m + 1)
  have hmin : min d (r / (m + 1)) ≤ r / (m + 1) := min_le_right _ _
  rw [Nat.mul_succ] at hle
  omega

/-- Everyone receives the smaller of its demand and the first level at least. -/
theorem waterFill_ge {r : Nat} {l : List Participant} {z : Participant × Nat} (hz : z ∈ waterFill r l) :
    min z.1.demand (r / l.length) ≤ z.2 := by
  induction l generalizing r with
  | nil => exact absurd hz (by simp [waterFill])
  | cons a rest ih =>
    rw [waterFill_cons] at hz
    rcases List.mem_cons.mp hz with rfl | hz
    · exact le_rfl
    · have hpos : 0 < rest.length := by
        rw [← waterFill_length (r - min a.demand (r / (rest.length + 1))) rest]
        exact List.length_pos_of_mem hz
      exact (min_le_min_left _ (level_le_next r rest.length a.demand hpos)).trans (ih hz)

/-- A remainder of at most k for each leaves at most k for each of the others once a level is taken from it. -/
theorem sub_level_le {r m k : Nat} (h : r ≤ (m + 1) * k) : r - r / (m + 1) ≤ m * k := by
  have hdiv : (m + 1) * (r / (m + 1)) + r % (m + 1) = r := Nat.div_add_mod r (m + 1)
  have hmod : r % (m + 1) < m + 1 := Nat.mod_lt _ (Nat.succ_pos m)
  rcases Nat.lt_or_ge (r / (m + 1)) k with hlt | hge
  · have hmul : m * (r / (m + 1)) + m ≤ m * k := by
      rw [← Nat.mul_succ]
      exact Nat.mul_le_mul_left m hlt
    rw [Nat.succ_mul] at hdiv
    omega
  · rw [Nat.succ_mul] at h
    omega

/-- Where everyone wants so much or more and the remainder does not allow more, no one receives more. -/
theorem waterFill_le {r k : Nat} {l : List Participant} (hr : r ≤ l.length * k) (hd : ∀ a ∈ l, k ≤ a.demand)
    {z : Participant × Nat} (hz : z ∈ waterFill r l) : z.2 ≤ k := by
  induction l generalizing r with
  | nil => exact absurd hz (by simp [waterFill])
  | cons a rest ih =>
    have hlevel : r / (rest.length + 1) ≤ k := Nat.div_le_of_le_mul (by simpa using hr)
    have hshare : min a.demand (r / (rest.length + 1)) = r / (rest.length + 1) :=
      min_eq_right (hlevel.trans (hd a (List.mem_cons_self ..)))
    rw [waterFill_cons, hshare] at hz
    rcases List.mem_cons.mp hz with rfl | hz
    · exact hlevel
    · refine ih ?_ (fun b hb => hd b (List.mem_cons_of_mem _ hb)) hz
      exact sub_level_le (by simpa using hr)

/-- R140: where the demands together are within the remainder, everyone receives its demand. -/
theorem waterFill_full {r : Nat} {l : List Participant} (hl : l.Pairwise Participant.atMost)
    (hr : (l.map Participant.demand).sum ≤ r) {z : Participant × Nat} (hz : z ∈ waterFill r l) : z.2 = z.1.demand := by
  induction l generalizing r with
  | nil => exact absurd hz (by simp [waterFill])
  | cons a rest ih =>
    obtain ⟨ha, hrest⟩ := List.pairwise_cons.mp hl
    rw [List.map_cons, List.sum_cons] at hr
    have hothers : rest.length * a.demand ≤ (rest.map Participant.demand).sum := by
      have hsum := List.card_nsmul_le_sum (rest.map Participant.demand) a.demand fun d hd => by
        obtain ⟨b, hb, rfl⟩ := List.mem_map.mp hd
        exact Participant.demand_le (ha b hb)
      simpa using hsum
    have hlevel : a.demand ≤ r / (rest.length + 1) := by
      rw [Nat.le_div_iff_mul_le (Nat.succ_pos _), Nat.mul_succ, Nat.mul_comm]
      omega
    rw [waterFill_cons, min_eq_left hlevel] at hz
    rcases List.mem_cons.mp hz with rfl | hz
    · rfl
    · exact ih hrest (by omega) hz

theorem waterFill_zero {l : List Participant} {z : Participant × Nat} (hz : z ∈ waterFill 0 l) : z.2 = 0 := by
  have hsum := waterFill_sum_le 0 l
  have hle : z.2 ≤ ((waterFill 0 l).map Prod.snd).sum := List.le_sum_of_mem (List.mem_map_of_mem hz)
  omega

/-- R139: of two participants the later one receives as much or more, and at an equal demand one unit more at most. -/
theorem waterFill_fair {r : Nat} {l : List Participant} (hl : l.Pairwise Participant.atMost) {a b : Participant} {x y : Nat}
    {post : List (Participant × Nat)} (h : waterFill r l = (a, x) :: post) (hb : (b, y) ∈ post) :
    x ≤ y ∧ (a.demand = b.demand → y ≤ x + 1) := by
  obtain ⟨hx, hxr, m, rfl, rfl⟩ := waterFill_head h
  rw [waterFill_length] at hx
  obtain ⟨ha, hm⟩ := List.pairwise_cons.mp hl
  have hmem : b ∈ m := by
    rw [← waterFill_fst (r - x) m]
    exact List.mem_map_of_mem hb
  have hpos : 0 < m.length := List.length_pos_of_mem hmem
  have hdemand : a.demand ≤ b.demand := Participant.demand_le (ha b hmem)
  have hlevel : x ≤ (r - x) / m.length := by
    have hnext := level_le_next r m.length a.demand hpos
    rw [← hx] at hnext
    exact (hx.le.trans (min_le_right _ _)).trans hnext
  have hxa : x ≤ a.demand := hx.le.trans (min_le_left _ _)
  refine ⟨(le_min (hxa.trans hdemand) hlevel).trans (waterFill_ge hb), fun hequal => ?_⟩
  rcases Nat.lt_or_ge x a.demand with hlt | hge
  · have hxlevel : x = r / (m.length + 1) := by
      rcases min_choice a.demand (r / (m.length + 1)) with hmin | hmin
      · omega
      · exact hx.trans hmin
    refine waterFill_le (k := x + 1) ?_ (fun c hc => Nat.succ_le_of_lt (hlt.trans_le (Participant.demand_le (ha c hc)))) hb
    have hr : r ≤ (m.length + 1) * (x + 1) := by
      rw [hxlevel]
      exact (Nat.lt_mul_div_succ r (Nat.succ_pos _)).le
    have hsub := sub_level_le hr
    rwa [← hxlevel] at hsub
  · have hy : y ≤ b.demand := waterFill_le_demand hb
    omega

/-! ## The own share -/

/-- R119, R139: with no record of the own address, the share at it is the station's. -/
theorem State.own_mem_shares (s : State) (p : Pool) (h : ∀ r ∈ s.peers, r.address ≠ s.loader.ownAddress) :
    ((⟨effectiveDemand (s.demand p) (s.share.rings.get p), s.loader.ownAddress⟩ : Participant), s.ownShare p) ∈
      waterFill (s.reducedCapacity p) (orderParticipants (s.participants p)) := by
  have hmem : ∀ a, a ∈ orderParticipants (s.participants p) ↔ a ∈ s.participants p :=
    fun a => (orderParticipants_perm _).mem_iff
  have hunique : ∀ a ∈ s.participants p, a.address = s.loader.ownAddress →
      a = ⟨effectiveDemand (s.demand p) (s.share.rings.get p), s.loader.ownAddress⟩ := by
    intro a ha haddress
    rw [State.participants_eq] at ha
    rcases List.mem_cons.mp ha with rfl | ha
    · rfl
    · obtain ⟨r, hr, rfl⟩ := List.mem_map.mp ha
      exact absurd haddress (h r (List.mem_of_mem_filter hr))
  have hfst := waterFill_fst (s.reducedCapacity p) (orderParticipants (s.participants p))
  rw [State.ownShare, shareAt]
  generalize hshares : waterFill (s.reducedCapacity p) (orderParticipants (s.participants p)) = shares at hfst ⊢
  have hown : (⟨effectiveDemand (s.demand p) (s.share.rings.get p), s.loader.ownAddress⟩ : Participant) ∈
      shares.map Prod.fst := by
    rw [hfst, hmem, State.participants]
    exact List.mem_cons_self ..
  cases hfind : shares.find? (fun x => x.1.address == s.loader.ownAddress) with
  | none =>
    obtain ⟨z, hz, hzown⟩ := List.mem_map.mp hown
    exact absurd (by simp [hzown]) (List.find?_eq_none.mp hfind z hz)
  | some z =>
    have hz := List.mem_of_find?_eq_some hfind
    have hzown : z.1 = _ := hunique z.1 ((hmem _).mp (hfst ▸ List.mem_map_of_mem hz))
      (by simpa using List.find?_some hfind)
    rw [← hzown]
    exact hz

/-- Settles O43: the demands, the participants, and the fill by its order, its steps and its fairness. -/
theorem waterFillIsFair : Obligations.WaterFillIsFair := by
  intro s p capacity shares own takesPart throttled above
  have hcapacity : s.reducedCapacity p = capacity := by rw [State.reducedCapacity, lapsedDrawers_eq]
  have hfst : shares.map Prod.fst = orderParticipants (s.participants p) := waterFill_fst _ _
  have hsorted := orderParticipants_sorted (s.participants p)
  have hsplit : ∀ pre rest, shares = pre ++ rest → ∃ m, rest = waterFill (capacity - (pre.map Prod.snd).sum) m ∧
      m.Pairwise Participant.atMost ∧ (pre.map Prod.snd).sum ≤ capacity := by
    intro pre rest h
    obtain ⟨m, hrest, hl, hsum⟩ := waterFill_split h
    rw [hcapacity] at hrest hsum
    rw [hl] at hsorted
    exact ⟨m, hrest, (List.pairwise_append.mp hsorted).2.1, hsum⟩
  refine ⟨rfl, ?_, s.demand_ret_eq, s.demand_supply_le, s.demand_header_le, s.demand_ret_le, hcapacity,
    s.participants_eq p, (effectiveDemand_le _ _).1, (effectiveDemand_le _ _).2, effectiveDemand_mem _ _, ?_, ?_, ?_,
    fun pre a x post h => ?_, fun pre a x mid b y post h => ?_, fun hsum z hz => ?_, fun hzero z hz => ?_,
    s.own_mem_shares p⟩
  · simp only [State.demand]
    split
    · exact throttled_cast _ _ _
    · rfl
  · rw [hfst]
    exact orderParticipants_perm _
  · rw [hfst]
    exact hsorted
  · rw [← hcapacity]
    exact waterFill_sum_le _ _
  · obtain ⟨m, hrest, _, hsum⟩ := hsplit _ _ h
    obtain ⟨hx, hle, _⟩ := waterFill_head hrest.symm
    exact ⟨hx, by omega⟩
  · rw [List.append_assoc, List.cons_append] at h
    obtain ⟨m, hrest, hm, _⟩ := hsplit _ _ h
    exact waterFill_fair hm hrest.symm (List.mem_append_right _ (List.mem_cons_self ..))
  · refine waterFill_full hsorted ?_ hz
    have hmap : shares.map (fun z => z.1.demand) = (orderParticipants (s.participants p)).map Participant.demand := by
      rw [← hfst, List.map_map]
      rfl
    rw [hcapacity, ← hmap]
    exact hsum
  · have hz : z ∈ waterFill (s.reducedCapacity p) (orderParticipants (s.participants p)) := hz
    rw [hcapacity, hzero] at hz
    exact waterFill_zero hz

end Sys2Proof.Machine
end


section
/-!
PROOFS. The sample event: its turns, the new values of the input unit and the presses (O12, O14).
-/

namespace Sys2Proof.Machine

open Sys2Proof

variable {s t u : State}

/-! ## What a turn can change -/

/-- R1, R14: a turn reaches neither the loader, the peer table nor the queue, and of the input unit it can empty the
identity holder alone. -/
structure TurnKeeps (s t : State) : Prop where
  others : Untouched [.input, .seq, .check, .det, .valve, .line, .share, .trip, .ticket] s t
  input : t.input = s.input ∨ t.input = { s.input with identity := [] }

theorem TurnKeeps.refl (s : State) : TurnKeeps s s := ⟨untouched_refl _ s, .inl rfl⟩

theorem TurnKeeps.trans (h : TurnKeeps s t) (k : TurnKeeps t u) : TurnKeeps s u := by
  refine ⟨h.others.trans k.others, ?_⟩
  rcases h.input with h | h <;> rcases k.input with k | k <;> rw [k, h]
  · exact .inl rfl
  · exact .inr rfl
  · exact .inr rfl
  · exact .inr rfl

/-- A change outside the input unit, in the blocks that a turn can change. -/
theorem TurnKeeps.of_untouched (h : Untouched [.seq, .check, .det, .valve, .line, .share, .trip, .ticket] s t) :
    TurnKeeps s t :=
  ⟨h.weaken (by decide), .inl (h .input (by decide))⟩

theorem State.enterIdle_keeps (s : State) : TurnKeeps s s.enterIdle :=
  ⟨s.enterIdle_untouched.weaken (by decide), .inr s.enterIdle_input⟩

theorem State.failCheck_keeps (code : Code) (s : State) : TurnKeeps s (s.failCheck code) :=
  ((TurnKeeps.of_untouched (s.dropCheck_untouched.weaken (by decide))).trans s.dropCheck.enterIdle_keeps).trans
    (.of_untouched ((State.setTempCode_untouched _ code).weaken (by decide)))

/-! ## The works -/

theorem State.startInIdle_keeps (s : State) : TurnKeeps s s.startInIdle := by
  unfold State.startInIdle
  split
  · exact .of_untouched ((s.setTempCode_untouched _).weaken (by decide))
  · refine TurnKeeps.trans (t := s.beginCheck) (.of_untouched fun b hb => ?_)
      (.of_untouched ((State.enterPhase_untouched _ _).weaken (by decide)))
    cases b <;> simp_all [Block.same] <;> rfl

theorem State.startInHold_keeps (s : State) : TurnKeeps s s.startInHold := by
  cases hh : s.seq.held with
  | none =>
    rw [State.startInHold, hh]
    exact .refl s
  | some h =>
    rw [State.startInHold_resumes hh]
    exact .of_untouched (((s.resuming_untouched h).weaken (by decide)).trans
      ((State.resumePhase_resumed h _).untouched.weaken (by decide)))

theorem State.stopInHold_keeps (s : State) : TurnKeeps s s.stopInHold :=
  .of_untouched (((untouched_onSeq _ s).weaken (by decide)).trans
    (s.stopInHold_entered.untouched.weaken (by decide)))

theorem State.stopInCheck_keeps (s : State) : TurnKeeps s s.stopInCheck :=
  (TurnKeeps.of_untouched (s.dropCheck_untouched.weaken (by decide))).trans s.dropCheck.enterIdle_keeps

theorem State.resetPress_keeps (s : State) : TurnKeeps s s.resetPress := by
  unfold State.resetPress State.leaveTripped
  split
  · exact .of_untouched ((s.setTempCode_untouched _).weaken (by decide))
  split
  · exact .of_untouched ((s.setTempCode_untouched _).weaken (by decide))
  have hclear : TurnKeeps s s.clearTrips := .of_untouched (s.clearTrips_untouched.weaken (by decide))
  split
  · exact hclear.trans (.of_untouched ((s.clearTrips.enterHold_untouched _ _).weaken (by decide)))
  · exact hclear.trans s.clearTrips.enterIdle_keeps

theorem State.panelWork_keeps (p : PanelReports) (s : State) : TurnKeeps s (s.panelWork p).1 := by
  have hhold : ∀ h, TurnKeeps s (s.enterHold (some h) .operator) := fun h =>
    .of_untouched ((s.enterHold_untouched _ _).weaken (by decide))
  cases hp : s.seq.phase
  case idle =>
    rw [State.panelWork_idle hp]
    split
    · exact s.startInIdle_keeps
    · exact .refl s
  case check =>
    rw [State.panelWork_check hp]
    dsimp only
    split
    · exact s.stopInCheck_keeps
    · exact .refl s
  case push =>
    rw [State.panelWork_push hp]
    dsimp only
    split
    · exact hhold .push
    · exact .refl s
  case recover =>
    rw [State.panelWork_recover hp]
    dsimp only
    split
    · exact hhold .recover
    · exact .refl s
  case hold =>
    rw [State.panelWork_hold hp]
    dsimp only
    split
    · exact s.stopInHold_keeps
    split
    · exact s.startInHold_keeps
    · exact .refl s
  case tripped =>
    rw [State.panelWork_tripped hp]
    dsimp only
    split
    · exact s.resetPress_keeps
    split
    · exact .of_untouched (s.longPress_untouched.weaken (by decide))
    · exact .refl s
  all_goals
    rw [State.panelWork_ignored (by simp [hp])]
    exact .refl s

theorem State.armsWork_keeps (s : State) : TurnKeeps s s.armsWork := by
  refine TurnKeeps.trans (t := s.endReleasing) ?_
    (.of_untouched (s.endReleasing.closeUncoupled_untouched.weaken (by decide)))
  unfold State.endReleasing
  split
  · refine TurnKeeps.trans (.of_untouched ?_) (State.enterIdle_keeps _)
    exact ((s.closeTicket_untouched _).weaken (by decide)).trans ((State.dropBaseline_untouched _).weaken (by decide))
  · exact .refl s

theorem State.residualWork_keeps (s : State) : TurnKeeps s s.residualWork := by
  have hseq : ∀ f, TurnKeeps s (s.onSeq f) := fun f => .of_untouched ((untouched_onSeq f s).weaken (by decide))
  unfold State.residualWork
  split
  · split
    · split
      · exact hseq _
      · exact ((hseq _).trans (.of_untouched ((State.note_untouched _ _ _).weaken (by decide)))).trans
          (.of_untouched ((State.enterClose_untouched _).weaken (by decide)))
    · exact hseq _
  · exact .refl s

theorem State.checkWork_keeps (s : State) : TurnKeeps s s.checkWork.1 := by
  have hcheck : ∀ f, TurnKeeps s (s.onCheck f) := fun f => .of_untouched fun b hb => by
    cases b <;> simp_all [Block.same]
  unfold State.checkWork State.baselineSample
  split
  · exact .refl s
  split
  · exact s.failCheck_keeps .fa
  split
  · dsimp only
    split
    · exact s.failCheck_keeps .fb
    split
    · exact hcheck _
    · dsimp only
      exact hcheck _
  · exact .refl s

theorem State.valveWork_keeps (s : State) : TurnKeeps s s.valveWork.1 := by
  by_cases hoff : s.seq.phase = .offline
  · rw [State.valveWork, if_pos hoff]
    exact .refl s
  · rw [State.valveWork_eq hoff]
    refine .of_untouched ((s.driven_untouched.weaken (by decide)).trans fun b hb => ?_)
    cases b <;> simp_all [Block.same, State.superviseValves]

theorem State.ticketWork_keeps (s : State) : TurnKeeps s s.ticketWork := by
  refine .of_untouched fun b hb => ?_
  unfold State.ticketWork State.meterNote
  split <;> cases b <;> simp_all [Block.same]

theorem doWork_keeps (w : SampleWork) (s : State) (e : Event) : TurnKeeps s (doWork w s e).1 := by
  cases w with
  | sensor => exact .refl s
  | panel => exact s.panelWork_keeps e.panel
  | supervision => exact .refl s
  | arms => exact s.armsWork_keeps
  | residual => exact s.residualWork_keeps
  | check =>
    unfold doWork
    dsimp only
    split
    · exact .refl s
    · exact s.checkWork_keeps
  | detectors => exact .of_untouched ((s.detectorWork_untouched e.baselineDone).weaken (by decide))
  | valves => exact s.valveWork_keeps
  | share => exact .of_untouched (s.shareWork_untouched.weaken (by decide))
  | trips => exact .refl s
  | tickets => exact s.ticketWork_keeps

/-! ## The reports and the turns -/

theorem State.takeReport_keeps (r : SampleReport) (s : State) : TurnKeeps s (s.takeReport r) := by
  cases r with
  | cause c => exact .of_untouched (s.latch_untouched c)
  | confirm =>
    show TurnKeeps s s.confirmLiquidOut
    unfold State.confirmLiquidOut
    split
    · exact .of_untouched (((s.note_untouched _ _).weaken (by decide)).trans
        (((untouched_onDet _ _).weaken (by decide)).trans ((State.enterDrain_untouched _).weaken (by decide))))
    · exact .refl s
  | throttle => exact .of_untouched (((State.det_note_untouched _ _ _ s).weaken (by decide)).trans
      ((State.promptOnMove_untouched _ _).weaken (by decide)))
  | hold =>
    show TurnKeeps s s.flashingHold
    unfold State.flashingHold
    split
    · exact .of_untouched ((s.enterHold_untouched _ _).weaken (by decide))
    · exact .refl s
  | lvClosed =>
    show TurnKeeps s s.lvConfirmedClosed
    unfold State.lvConfirmedClosed
    split
    · exact .of_untouched (s.endDrain_untouched.weaken (by decide))
    · exact .refl s
  | allClosed => exact .of_untouched (s.endShutting_untouched.weaken (by decide))

theorem takeReports_keeps (reports : List SampleReport) (s : State) :
    TurnKeeps s (reports.foldl (fun t r => t.takeReport r) s) := by
  induction reports generalizing s with
  | nil => exact .refl s
  | cons r rest ih => exact (s.takeReport_keeps r).trans (ih _)

theorem runTurn_keeps (turn : SampleTurn) (s : State) (e : Event) : TurnKeeps s (runTurn turn s e).1 := by
  cases turn with
  | work w => exact (doWork_keeps w s e).trans (takeReports_keeps _ _)
  | take r =>
    show TurnKeeps s (if e.waiting.contains r then s.takeReport r else s)
    split
    · exact s.takeReport_keeps r
    · exact .refl s

theorem runTurns_keeps (turns : List SampleTurn) (s : State) (e : Event) : TurnKeeps s (runTurns turns s e) := by
  induction turns generalizing s e with
  | nil => exact .refl s
  | cons turn rest ih => exact (runTurn_keeps turn s e).trans (ih _ _)

/-! ## The order of the turns (assumption 1) -/

theorem mem_firstOnes (seen turns : List SampleTurn) (turn : SampleTurn) :
    turn ∈ firstOnes seen turns ↔ turn ∈ turns ∧ turn ∉ seen := by
  induction turns generalizing seen with
  | nil => simp [firstOnes]
  | cons first rest ih =>
    by_cases hseen : first ∈ seen
    · rw [firstOnes, if_pos (by simpa using hseen), ih]
      grind
    · rw [firstOnes, if_neg (by simpa using hseen), List.mem_cons, ih]
      grind

theorem firstOnes_nodup (seen turns : List SampleTurn) : (firstOnes seen turns).Nodup := by
  induction turns generalizing seen with
  | nil => exact .nil
  | cons first rest ih =>
    unfold firstOnes
    split
    · exact ih seen
    · exact List.nodup_cons.mpr ⟨fun h => ((mem_firstOnes _ _ _).mp h).2 (List.mem_cons_self ..), ih _⟩

/-- Every turn runs once, whatever the command names. -/
theorem turnsOf_perm (order : List SampleTurn) : (turnsOf order).Perm allTurns := by
  refine (List.perm_ext_iff_of_nodup (firstOnes_nodup _ _) (by decide)).mpr fun turn => ?_
  rw [mem_firstOnes]
  simp

theorem firstOnes_starts {seen order : List SampleTurn} (rest : List SampleTurn) (hnodup : order.Nodup)
    (hfresh : ∀ turn ∈ order, turn ∉ seen) : order <+: firstOnes seen (order ++ rest) := by
  induction order generalizing seen with
  | nil => exact List.nil_prefix
  | cons first order ih =>
    obtain ⟨hfirst, horder⟩ := List.nodup_cons.mp hnodup
    have hstep : firstOnes seen (first :: order ++ rest) = first :: firstOnes (first :: seen) (order ++ rest) := by
      rw [List.cons_append, firstOnes, if_neg (by simpa using hfresh first (List.mem_cons_self ..))]
    rw [hstep]
    refine List.cons_prefix_cons.mpr ⟨rfl, ih horder fun turn hturn hmem => ?_⟩
    rcases List.mem_cons.mp hmem with rfl | hmem
    · exact hfirst hturn
    · exact hfresh turn (List.mem_cons_of_mem _ hturn) hmem

/-- The turns that the command names run first, in its order. -/
theorem turnsOf_starts {order : List SampleTurn} (hnodup : order.Nodup) (hall : ∀ turn ∈ order, turn ∈ allTurns) :
    order <+: turnsOf order := by
  have hfilter : order.filter (fun turn => allTurns.contains turn) = order :=
    List.filter_eq_self.mpr fun turn hturn => by simpa using hall turn hturn
  unfold turnsOf
  rw [hfilter]
  exact firstOnes_starts allTurns hnodup fun turn _ => List.not_mem_nil

/-! ## The event (R1) -/

theorem exec_sampleEvent (hoff : s.seq.phase ≠ .offline) (counts : Six (BitVec 12)) (levels : Twelve Bool)
    (order : List SampleTurn) : exec (.sampleEvent counts levels order) s =
      .next (runTurns (turnsOf order) (s.sampleInputs counts levels) (s.eventOf levels)) :=
  congrArg Host.Outcome.next (if_pos (by simp [State.running, hoff]))

theorem State.sampleInputs_input (counts : Six (BitVec 12)) (levels : Twelve Bool) (s : State) :
    (s.sampleInputs counts levels).input = s.input.sample s.cfg counts levels := by
  simp [State.sampleInputs]

/-- R1 (1) to (3), then the turns: the input unit's new values stand at the end of the event, but for the identity. -/
theorem runTurns_input (counts : Six (BitVec 12)) (levels : Twelve Bool) (turns : List SampleTurn) (s : State) (e : Event) :
    (runTurns turns (s.sampleInputs counts levels) e).input = s.input.sample s.cfg counts levels ∨
    (runTurns turns (s.sampleInputs counts levels) e).input =
      { s.input.sample s.cfg counts levels with identity := [] } := by
  rw [← State.sampleInputs_input]
  exact (runTurns_keeps turns _ e).input

theorem State.sampleInputs_untouched (counts : Six (BitVec 12)) (levels : Twelve Bool) (s : State) :
    Untouched [.input, .line] s (s.sampleInputs counts levels) :=
  ((untouched_onInput _ s).weaken (by decide)).trans ((State.promptOnMove_untouched _ _).weaken (by decide))

/-- Settles O12: the order of the turns, and what the turns leave of the input unit's new values. -/
theorem sampleEventReadsTheInputs : Obligations.SampleEventReadsTheInputs := by
  intro s counts levels order hoff
  refine ⟨turnsOf_perm order, turnsOf_starts, _, exec_sampleEvent hoff counts levels order, rfl,
    ((s.sampleInputs_untouched counts levels).weaken (by decide)).trans (runTurns_keeps _ _ _).others, ?_⟩
  rcases runTurns_input counts levels (turnsOf order) s (s.eventOf levels) with h | h <;> rw [h]
  · exact ⟨rfl, rfl, rfl, rfl, rfl, rfl, rfl, rfl, rfl, rfl, rfl, .inl rfl⟩
  · exact ⟨rfl, rfl, rfl, rfl, rfl, rfl, rfl, rfl, rfl, rfl, rfl, .inr rfl⟩

/-! ## Presses (R10, R11) -/

theorem isPress_iff (before after : Debouncer) :
    isPress before after = true ↔ before.stable = .inactive ∧ after.stable = .active := by
  simp [isPress]

theorem longPressStep_press (limit : Nat) (after : Debouncer) (count : Nat) (held : Bool) :
    longPressStep limit true after count held = (0, true) := rfl

theorem longPressStep_released (limit : Nat) {after : Debouncer} (h : after.stable ≠ .active) (count : Nat) (held : Bool) :
    longPressStep limit false after count held = (0, false) := by
  simp [longPressStep, (Debouncer.not_isActive_iff after).mpr h]

theorem longPressStep_holding (limit : Nat) {after : Debouncer} (h : after.stable = .active) (count : Nat) :
    longPressStep limit false after count true = (min limit (count + 1), true) := by
  simp [longPressStep, (Debouncer.isActive_iff after).mpr h]

theorem longPressStep_unbegun (limit : Nat) {after : Debouncer} (h : after.stable = .active) (count : Nat) :
    longPressStep limit false after count false = (count, false) := by
  simp [longPressStep, (Debouncer.isActive_iff after).mpr h]

theorem isLongPress_iff (limit : Nat) (press : Bool) (after : Debouncer) (count : Nat) (held : Bool) :
    isLongPress limit press after count held = true ↔
      press = false ∧ after.stable = .active ∧ held = true ∧ count + 1 = limit := by
  simp only [isLongPress, Bool.and_eq_true, Bool.not_eq_true', Debouncer.isActive_iff, decide_eq_true_eq, beq_iff_eq]
  constructor
  · rintro ⟨⟨⟨⟨hp, ha⟩, hh⟩, _⟩, hc⟩
    exact ⟨hp, ha, hh, hc⟩
  · rintro ⟨hp, ha, hh, hc⟩
    exact ⟨⟨⟨⟨hp, ha⟩, hh⟩, by omega⟩, hc⟩

/-- R11: the count of a holding after so many sample events. -/
theorem longPressStep_iterate (limit : Nat) {active : Debouncer} (h : active.stable = .active) (k : Nat) :
    (fun c : Nat × Bool => longPressStep limit false active c.1 c.2)^[k] (0, true) = (min limit k, true) := by
  induction k with
  | zero => rw [Function.iterate_zero, id, Nat.min_zero]
  | succ k ih =>
    rw [Function.iterate_succ_apply', ih, longPressStep_holding limit h]
    congr 1
    omega

theorem longPressStep_iterate_unbegun (limit : Nat) {active : Debouncer} (h : active.stable = .active) (k : Nat) :
    (fun c : Nat × Bool => longPressStep limit false active c.1 c.2)^[k] (0, false) = (0, false) := by
  induction k with
  | zero => rfl
  | succ k ih => rw [Function.iterate_succ_apply', ih, longPressStep_unbegun limit h]

/-- Settles O14: the count of a holding by iteration, then the presses of one sample event by the debouncers. -/
theorem pressesAreReportedOncePerHolding : Obligations.PressesAreReportedOncePerHolding := by
  refine ⟨fun limit active k hactive => ?_, fun s counts levels order hoff => ?_⟩
  · intro after held
    have hafter : after = (min limit k, true) := longPressStep_iterate limit hactive k
    have hheld : held = (0, false) := longPressStep_iterate_unbegun limit hactive k
    refine ⟨hafter, ?_, hheld, ?_⟩
    · rw [isLongPress_iff, hafter]
      constructor
      · rintro ⟨_, _, _, hcount⟩
        have hcount : min limit k + 1 = limit := hcount
        omega
      · intro hcount
        exact ⟨rfl, hactive, rfl, show min limit k + 1 = limit by omega⟩
    · rw [Bool.eq_false_iff, ne_eq, isLongPress_iff, hheld]
      exact fun h => Bool.false_ne_true h.2.2.1
  · intro limit before after reports
    have hpress := isPress_iff before.reset after.reset
    have hinput := runTurns_input counts levels (turnsOf order) s (s.eventOf levels)
    have hdebounce : (runTurns (turnsOf order) (s.sampleInputs counts levels) (s.eventOf levels)).input.debounce = after := by
      rcases hinput with h | h <;> rw [h] <;> rfl
    have hhold : ((runTurns (turnsOf order) (s.sampleInputs counts levels) (s.eventOf levels)).input.longPress,
        (runTurns (turnsOf order) (s.sampleInputs counts levels) (s.eventOf levels)).input.resetHeld) =
        longPressStep limit reports.reset after.reset s.input.longPress s.input.resetHeld := by
      rcases hinput with h | h <;> rw [h] <;> rfl
    have hlong : reports.longPress =
        isLongPress limit reports.reset after.reset s.input.longPress s.input.resetHeld := rfl
    refine ⟨_, exec_sampleEvent hoff counts levels order, rfl, hdebounce, isPress_iff _ _, isPress_iff _ _, hpress,
      fun hreset => ?_, fun hreleased => ?_, fun hactive hreset => ?_⟩
    · rw [hreset, longPressStep_press] at hhold
      rw [hlong, hreset]
      exact ⟨congrArg Prod.fst hhold, congrArg Prod.snd hhold, rfl⟩
    · have hreset : reports.reset = false := Bool.eq_false_iff.mpr fun h => hreleased (hpress.mp h).2
      rw [hreset, longPressStep_released limit hreleased] at hhold
      refine ⟨congrArg Prod.fst hhold, congrArg Prod.snd hhold, ?_⟩
      rw [hlong, Bool.eq_false_iff, ne_eq, isLongPress_iff]
      exact fun h => hreleased h.2.1
    · rw [hreset] at hhold
      rw [hlong, hreset]
      cases hheld : s.input.resetHeld with
      | false =>
        rw [hheld, longPressStep_unbegun limit hactive] at hhold
        refine ⟨congrArg Prod.snd hhold, fun _ => ⟨congrArg Prod.fst hhold, ?_⟩, fun h => Bool.noConfusion h⟩
        rw [Bool.eq_false_iff, ne_eq, isLongPress_iff]
        exact fun h => Bool.false_ne_true h.2.2.1
      | true =>
        rw [hheld, longPressStep_holding limit hactive] at hhold
        refine ⟨congrArg Prod.snd hhold, fun h => Bool.noConfusion h, fun _ => ⟨congrArg Prod.fst hhold, ?_⟩⟩
        rw [isLongPress_iff]
        exact ⟨fun h => h.2.2.2, fun h => ⟨rfl, hactive, rfl, h⟩⟩

end Sys2Proof.Machine
end


section
/-!
PROOFS. No command reads or changes the queue of the commands that wait (O2).

A function of the state is queue-blind where it does the same with another queue and leaves that queue. Updates of one
block are queue-blind by evaluation; compositions, choices by a condition that does not read the queue, and cases over a
value that does not depend on it keep the property.
-/

namespace Sys2Proof.Machine

open Sys2Proof

variable {s t : State}

/-! ## Queue-blind functions -/

/-- The state with another queue of waiting commands. -/
def State.withQueue (q : List Instr) (s : State) : State := { s with pending := q }

/-- The function does the same with another queue, and leaves that queue. -/
def QueueBlind (f : State → State) : Prop := ∀ q s, f (s.withQueue q) = (f s).withQueue q

namespace QueueBlind

variable {f g h : State → State}

theorem id : QueueBlind fun s => s := fun _ _ => rfl

theorem comp (hg : QueueBlind g) (hf : QueueBlind f) : QueueBlind fun s => g (f s) := fun q s => by
  change g (f (s.withQueue q)) = (g (f s)).withQueue q
  rw [hf q s, hg q (f s)]

/-- A function with a parameter that is read from the state before. -/
theorem compWith {α : Type} {F : α → State → State} {v : State → α} (hF : ∀ a, QueueBlind (F a))
    (hv : ∀ q s, v (s.withQueue q) = v s) (hf : QueueBlind f) : QueueBlind fun s => F (v s) (f s) := fun q s => by
  change F (v (s.withQueue q)) (f (s.withQueue q)) = (F (v s) (f s)).withQueue q
  rw [hf q s, hF (v (s.withQueue q)) q (f s), hv q s]

theorem ite {c : State → Prop} [∀ s, Decidable (c s)] (hc : ∀ q s, c (s.withQueue q) ↔ c s) (hf : QueueBlind f)
    (hg : QueueBlind g) : QueueBlind fun s => if c s then f s else g s := fun q s => by
  by_cases h : c s
  · simp only [if_pos h, if_pos ((hc q s).mpr h), hf q s]
  · simp only [if_neg h, if_neg fun k => h ((hc q s).mp k), hg q s]

/-- A queue-blind function keeps the queue. -/
theorem pending (hf : QueueBlind f) (s : State) : (f s).pending = s.pending := by
  have h : f s = (f s).withQueue s.pending := hf s.pending s
  rw [h]
  rfl

end QueueBlind

/-! ## Notes, the prompt test and phase changes -/

theorem State.note_blind (k : NoteKind) (v : Nat) : QueueBlind (State.note k v) := fun _ _ => rfl

theorem State.promptTest_blind : QueueBlind State.promptTest := .ite (fun _ _ => Iff.rfl) (fun _ _ => rfl) .id

theorem State.promptOnMove_blind (before : Pools Nat) : QueueBlind (State.promptOnMove before) :=
  .ite (fun _ _ => Iff.rfl) .id State.promptTest_blind

theorem State.enterPhase_blind (p : Phase) : QueueBlind (State.enterPhase p) :=
  State.promptTest_blind.comp fun _ _ => rfl

theorem State.enterIdle_blind : QueueBlind State.enterIdle := (State.enterPhase_blind .idle).comp fun _ _ => rfl

theorem State.enterHold_blind (h : Option HeldPhase) (r : HoldReason) : QueueBlind (State.enterHold h r) :=
  (State.enterPhase_blind .hold).comp fun _ _ => rfl

theorem State.enterDrain_blind : QueueBlind State.enterDrain := (State.enterPhase_blind .drain).comp fun _ _ => rfl

theorem State.enterRecover_blind : QueueBlind State.enterRecover :=
  (State.enterPhase_blind .recover).comp fun _ _ => rfl

theorem State.endShutting_blind : QueueBlind State.endShutting := .ite (fun _ _ => Iff.rfl) (fun _ _ => rfl) .id

theorem State.enterClose_blind : QueueBlind State.enterClose :=
  State.endShutting_blind.comp ((State.enterPhase_blind .close).comp fun _ _ => rfl)

theorem State.endDrain_blind : QueueBlind State.endDrain :=
  .ite (fun _ _ => Iff.rfl) State.enterRecover_blind State.enterClose_blind

theorem State.endReleasing_blind : QueueBlind State.endReleasing :=
  .ite (fun _ _ => Iff.rfl) (State.enterIdle_blind.comp fun _ _ => rfl) .id

theorem State.closeUncoupled_blind : QueueBlind State.closeUncoupled :=
  .ite (fun _ _ => Iff.rfl) (fun _ _ => rfl) .id

/-! ## Trips -/

theorem State.abandonCheck_blind : QueueBlind State.abandonCheck := .ite (fun _ _ => Iff.rfl) (fun _ _ => rfl) .id

theorem State.enterTripped_blind (c : Cause) (o : Nat) : QueueBlind (State.enterTripped c o) :=
  State.closeUncoupled_blind.comp ((State.note_blind .trip (o * 16 + causeNumber c)).comp
    (QueueBlind.comp (g := State.setTempCode (causeCode c)) (fun _ _ => rfl)
      ((State.enterPhase_blind .tripped).comp (QueueBlind.comp (g := State.onSeq _) (fun _ _ => rfl)
        State.abandonCheck_blind))))

theorem State.tripEntry_blind (c : Cause) (o : Nat) : QueueBlind (State.tripEntry c o) :=
  .ite (fun _ _ => Iff.rfl) .id (State.enterTripped_blind c o)

theorem State.latch_blind (c : Cause) : QueueBlind (State.latch c) :=
  .ite (fun _ _ => Iff.rfl) .id
    (QueueBlind.compWith (F := fun o => State.tripEntry c o) (v := fun s => s.loader.ownAddress)
      (fun o => State.tripEntry_blind c o) (fun _ _ => rfl) fun _ _ => rfl)

theorem State.addRemote_blind (o : Nat) (cs : EntryCauses) : QueueBlind (State.addRemote o cs) :=
  .ite (fun _ _ => Iff.rfl) ((State.tripEntry_blind cs.first o).comp fun _ _ => rfl) fun _ _ => rfl

/-! ## The panel -/

theorem State.dropCheck_blind : QueueBlind State.dropCheck := fun _ _ => rfl

theorem State.clearTrips_blind : QueueBlind State.clearTrips :=
  .ite (fun _ _ => Iff.rfl) (fun _ _ => rfl) fun _ _ => rfl

theorem State.leaveTripped_blind : QueueBlind State.leaveTripped :=
  .ite (fun _ _ => Iff.rfl)
    (QueueBlind.compWith (F := fun h => State.enterHold h .trip) (v := fun s => s.seq.held)
      (fun h => State.enterHold_blind h .trip) (fun _ _ => rfl) .id)
    State.enterIdle_blind

theorem State.takeReset_blind : QueueBlind fun s =>
    match s.remaining with
    | some c => s.setTempCode (causeCode c)
    | none => s.clearTrips.leaveTripped := fun q s => by
  beta_reduce
  rw [show (s.withQueue q).remaining = s.remaining from rfl]
  cases s.remaining with
  | some c => rfl
  | none => exact State.leaveTripped_blind.comp State.clearTrips_blind q s

theorem State.resetPress_blind : QueueBlind State.resetPress :=
  .ite (fun _ _ => Iff.rfl) (fun _ _ => rfl) State.takeReset_blind

theorem State.longPress_blind : QueueBlind State.longPress := fun _ _ => rfl

theorem State.startInIdle_blind : QueueBlind State.startInIdle := fun q s => by
  unfold State.startInIdle
  rw [show (s.withQueue q).startRefusal = s.startRefusal from rfl]
  cases s.startRefusal with
  | some code => rfl
  | none => exact (State.enterPhase_blind .check).comp (f := State.beginCheck) (fun _ _ => rfl) q s

theorem State.resumePhase_blind (h : HeldPhase) : QueueBlind (State.resumePhase h) := by
  cases h with
  | push => exact State.enterPhase_blind .push
  | drain => exact State.enterDrain_blind
  | recover => exact State.enterRecover_blind
  | close => exact State.enterClose_blind

theorem State.startInHold_blind : QueueBlind State.startInHold := fun q s => by
  unfold State.startInHold
  rw [show (s.withQueue q).seq.held = s.seq.held from rfl]
  cases s.seq.held with
  | none => rfl
  | some h =>
    exact (State.resumePhase_blind h).comp
      (f := fun s => (s.note .resume h.phase.code).onSeq fun q => { q with held := none, reason := none })
      (fun _ _ => rfl) q s

theorem State.stopInCheck_blind : QueueBlind State.stopInCheck := State.enterIdle_blind.comp State.dropCheck_blind

theorem State.stopInHold_blind : QueueBlind State.stopInHold := State.enterClose_blind.comp fun _ _ => rfl

/-! ## Works of a sample event: a next state and a result that does not depend on the queue -/

/-- A work is queue-blind where its state is and its result does not read the queue. -/
def WorkBlind {α : Type} (f : State → State × α) : Prop :=
  ∀ q s, f (s.withQueue q) = ((f s).1.withQueue q, (f s).2)

namespace WorkBlind

variable {α : Type} {f g : State → State × α}

/-- A queue-blind next state with a result that does not read the queue. -/
theorem pair {g : State → State} {r : State → α} (hg : QueueBlind g) (hr : ∀ q s, r (s.withQueue q) = r s) :
    WorkBlind fun s => (g s, r s) := fun q s => Prod.ext (hg q s) (hr q s)

/-- A queue-blind next state with one result. -/
theorem answers {g : State → State} (a : α) (hg : QueueBlind g) : WorkBlind fun s => (g s, a) :=
  .pair (r := fun _ => a) hg fun _ _ => rfl

theorem ite {c : State → Prop} [∀ s, Decidable (c s)] (hc : ∀ q s, c (s.withQueue q) ↔ c s) (hf : WorkBlind f)
    (hg : WorkBlind g) : WorkBlind fun s => if c s then f s else g s := fun q s => by
  by_cases h : c s
  · simp only [if_pos h, if_pos ((hc q s).mpr h), hf q s]
  · simp only [if_neg h, if_neg fun k => h ((hc q s).mp k), hg q s]

theorem comp {h : State → State} (hf : WorkBlind f) (hh : QueueBlind h) : WorkBlind fun s => f (h s) := fun q s => by
  change f (h (s.withQueue q)) = ((f (h s)).1.withQueue q, (f (h s)).2)
  rw [hh q s, hf q (h s)]

end WorkBlind

theorem State.pressInIdle_blind (p : PanelReports) : WorkBlind fun s =>
    if p.start && !p.stop then (s.startInIdle, s.startRefusal.isNone) else (s, false) :=
  .ite (c := fun _ => (p.start && !p.stop) = true) (fun _ _ => Iff.rfl)
    (.pair State.startInIdle_blind fun _ _ => rfl) (.pair .id fun _ _ => rfl)

/-- A press that is taken by a queue-blind function, and does nothing where it is not made. -/
theorem QueueBlind.press {f g : State → State} (pressed : Bool) (hf : QueueBlind f) (hg : QueueBlind g) :
    QueueBlind fun s => if pressed then f s else g s := .ite (c := fun _ => pressed = true) (fun _ _ => Iff.rfl) hf hg

theorem State.panelWork_blind (p : PanelReports) : WorkBlind (State.panelWork p) := by
  intro q s
  unfold State.panelWork
  rw [show (s.withQueue q).seq.phase = s.seq.phase from rfl]
  cases s.seq.phase with
  | idle => exact State.pressInIdle_blind p q s
  | check => exact WorkBlind.answers false (.press p.stop State.stopInCheck_blind .id) q s
  | push =>
    exact WorkBlind.answers false (.press p.stop (State.enterHold_blind (some .push) .operator) .id) q s
  | recover =>
    exact WorkBlind.answers false (.press p.stop (State.enterHold_blind (some .recover) .operator) .id) q s
  | hold =>
    exact WorkBlind.answers false (.press p.stop State.stopInHold_blind
      (.press p.start State.startInHold_blind .id)) q s
  | tripped =>
    exact WorkBlind.answers false (.press p.reset State.resetPress_blind
      (.press p.longPress State.longPress_blind .id)) q s
  | offline => rfl
  | drain => rfl
  | close => rfl

theorem State.failCheck_blind (code : Code) : QueueBlind (State.failCheck code) :=
  QueueBlind.comp (g := State.setTempCode code) (fun _ _ => rfl) (State.enterIdle_blind.comp State.dropCheck_blind)

theorem State.baselineSample_blind : WorkBlind State.baselineSample :=
  .ite (fun _ _ => Iff.rfl) (.pair (State.failCheck_blind .fb) fun _ _ => rfl)
    (.ite (fun _ _ => Iff.rfl) (fun _ _ => rfl) fun _ _ => rfl)

theorem State.checkWork_blind : WorkBlind State.checkWork :=
  .ite (fun _ _ => Iff.rfl) (.pair .id fun _ _ => rfl)
    (.ite (fun _ _ => Iff.rfl) (.pair (State.failCheck_blind .fa) fun _ _ => rfl)
      (.ite (fun _ _ => Iff.rfl) State.baselineSample_blind (.pair .id fun _ _ => rfl)))

theorem State.transferJudge_withQueue (q : List Instr) (s : State) :
    (s.withQueue q).transferJudge = s.transferJudge := by
  funext d
  unfold State.transferJudge
  rw [show (s.withQueue q).seq.phase = s.seq.phase from rfl,
    show (s.withQueue q).liquidJudge = s.liquidJudge from rfl,
    show (s.withQueue q).excessJudge = s.excessJudge from rfl,
    show (s.withQueue q).surgeJudge = s.surgeJudge from rfl,
    show (s.withQueue q).flashJudge = s.flashJudge from rfl]

theorem State.transferReports_withQueue (q : List Instr) (s : State) :
    (s.withQueue q).transferReports = s.transferReports := by
  unfold State.transferReports
  rw [show (s.withQueue q).seq.phase = s.seq.phase from rfl,
    show (s.withQueue q).liquidConfirms = s.liquidConfirms from rfl,
    show (s.withQueue q).excessReports = s.excessReports from rfl,
    show (s.withQueue q).breakReports = s.breakReports from rfl,
    show (s.withQueue q).episode = s.episode from rfl,
    show (s.withQueue q).det = s.det from rfl,
    show (s.withQueue q).cfg = s.cfg from rfl]

theorem State.detectorWork_blind (fresh : Bool) : WorkBlind (State.detectorWork fresh) := fun q s => by
  unfold State.detectorWork
  rw [show (s.withQueue q).driftBaseline fresh = s.driftBaseline fresh from rfl, State.transferJudge_withQueue,
    State.transferReports_withQueue, show (s.withQueue q).driftNext = s.driftNext from rfl,
    show (s.withQueue q).driftReports = s.driftReports from rfl]
  cases s.driftBaseline fresh with
  | none => rfl
  | some b => rfl

theorem State.superviseValves_blind : WorkBlind State.superviseValves := fun _ _ => rfl

theorem State.stepTrim_blind : QueueBlind State.stepTrim := .ite (fun _ _ => Iff.rfl) (fun _ _ => rfl) .id

theorem State.moveValves_blind : QueueBlind State.moveValves := fun _ _ => rfl

theorem State.valveWork_blind : WorkBlind State.valveWork :=
  .ite (fun _ _ => Iff.rfl) (.pair .id fun _ _ => rfl)
    (.ite (fun _ _ => Iff.rfl) State.superviseValves_blind
      (State.superviseValves_blind.comp (State.moveValves_blind.comp State.stepTrim_blind)))

theorem State.judgeStarvation_blind : QueueBlind State.judgeStarvation :=
  .ite (fun _ _ => Iff.rfl)
    (.ite (fun _ _ => Iff.rfl) (.ite (fun _ _ => Iff.rfl) .id fun _ _ => rfl) fun _ _ => rfl) .id

theorem State.shareWork_blind : QueueBlind State.shareWork :=
  State.judgeStarvation_blind.comp (f := State.computeShares) fun _ _ => rfl

theorem State.meterNote_blind : QueueBlind State.meterNote := .ite (fun _ _ => Iff.rfl) (fun _ _ => rfl) .id

theorem State.ticketWork_blind : QueueBlind State.ticketWork := State.meterNote_blind.comp fun _ _ => rfl

theorem State.armsWork_blind : QueueBlind State.armsWork := State.closeUncoupled_blind.comp State.endReleasing_blind

theorem State.residualWork_blind : QueueBlind State.residualWork :=
  .ite (fun _ _ => Iff.rfl)
    (.ite (fun _ _ => Iff.rfl)
      (.ite (fun _ _ => Iff.rfl) (fun _ _ => rfl) (State.enterClose_blind.comp fun _ _ => rfl)) fun _ _ => rfl) .id

/-! ## Reports and turns -/

theorem State.confirmLiquidOut_blind : QueueBlind State.confirmLiquidOut :=
  .ite (fun _ _ => Iff.rfl) (State.enterDrain_blind.comp fun _ _ => rfl) .id

theorem State.raiseThrottle_blind : QueueBlind State.raiseThrottle :=
  QueueBlind.compWith (F := State.promptOnMove) (v := State.demands) State.promptOnMove_blind (fun _ _ => rfl)
    fun _ _ => rfl

theorem State.flashingHold_blind : QueueBlind State.flashingHold :=
  .ite (fun _ _ => Iff.rfl) (State.enterHold_blind (some .push) .flashing) .id

theorem State.lvConfirmedClosed_blind : QueueBlind State.lvConfirmedClosed :=
  .ite (fun _ _ => Iff.rfl) State.endDrain_blind .id

theorem State.takeReport_blind (r : SampleReport) : QueueBlind (State.takeReport r) := by
  cases r with
  | cause c => exact State.latch_blind c
  | confirm => exact State.confirmLiquidOut_blind
  | throttle => exact State.raiseThrottle_blind
  | hold => exact State.flashingHold_blind
  | lvClosed => exact State.lvConfirmedClosed_blind
  | allClosed => exact State.endShutting_blind

theorem State.takeReports_blind (rs : List SampleReport) :
    QueueBlind fun s => rs.foldl (fun t r => State.takeReport r t) s := fun q s => by
  induction rs generalizing s with
  | nil => rfl
  | cons r rest ih =>
    change rest.foldl (fun t r => State.takeReport r t) (State.takeReport r (s.withQueue q)) = _
    rw [State.takeReport_blind r q s]
    exact ih (State.takeReport r s)

theorem doWork_blind (w : SampleWork) (e : Event) : WorkBlind fun s => doWork w s e := fun q s => by
  cases w with
  | sensor => rfl
  | panel => simp only [doWork, State.panelWork_blind e.panel q s]
  | supervision => rfl
  | arms => simp only [doWork, State.armsWork_blind q s]
  | residual => simp only [doWork, State.residualWork_blind q s]
  | check =>
    unfold doWork
    by_cases h : e.checkBegan
    · simp only [if_pos h]
    · simp only [if_neg h, State.checkWork_blind q s]
  | detectors => simp only [doWork, State.detectorWork_blind e.baselineDone q s]
  | valves => simp only [doWork, State.valveWork_blind q s]
  | share => simp only [doWork, State.shareWork_blind q s]
  | trips => rfl
  | tickets => simp only [doWork, State.ticketWork_blind q s]

theorem hand_blind (rs : List SampleReport) (e : Event) : WorkBlind fun s => hand rs s e :=
  .pair (State.takeReports_blind _) fun _ _ => rfl

theorem takeTurn_blind (t : SampleTurn) (e : Event) : WorkBlind fun s => takeTurn t s e := fun q s => by
  cases t with
  | work w =>
    have hwork := doWork_blind w e q s
    simp only [takeTurn]
    simp only at hwork
    rw [hwork]
    exact hand_blind _ _ q _
  | take r =>
    exact WorkBlind.answers { e with passed := e.passed ++ [r] }
      (.press (e.waiting.contains r) (State.takeReport_blind r) .id) q s

theorem runTurn_blind (t : SampleTurn) (e : Event) : WorkBlind fun s => runTurn t s e := fun q s => by
  have hturn := takeTurn_blind t e q s
  simp only at hturn
  simp only [runTurn, hturn]
  rfl

theorem runTurns_blind (ts : List SampleTurn) (e : Event) : QueueBlind fun s => runTurns ts s e := fun q s => by
  induction ts generalizing s e with
  | nil => rfl
  | cons t rest ih =>
    have hturn := runTurn_blind t e q s
    simp only at hturn
    simp only [runTurns, hturn]
    exact ih (runTurn t s e).2 (runTurn t s e).1

theorem State.sampleInputs_blind (counts : Six (BitVec 12)) (levels : Twelve Bool) :
    QueueBlind (State.sampleInputs counts levels) :=
  QueueBlind.compWith (F := State.promptOnMove) (v := State.demands) State.promptOnMove_blind (fun _ _ => rfl)
    fun _ _ => rfl

/-! ## ISLAND and the ends of an attempt -/

theorem State.enterIsland_blind (how : Nat) : QueueBlind (State.enterIsland how) := fun _ _ => rfl

theorem State.exitIsland_blind : QueueBlind State.exitIsland := fun _ _ => rfl

theorem State.reportAcked_blind (carried : Pools Nat) : QueueBlind (State.reportAcked carried) :=
  QueueBlind.comp (g := fun s =>
      if s.share.island = .island ∧ s.share.faultMarker = false then s.exitIsland else s)
    (f := State.onShare fun u => { u with rings := poolsZip pushRing carried u.rings })
    (.ite (fun _ _ => Iff.rfl) State.exitIsland_blind .id) fun _ _ => rfl

theorem State.reportUnacked_blind (count : Nat) : QueueBlind (State.reportUnacked count) :=
  .ite (fun _ _ => Iff.rfl) (State.enterIsland_blind 1) .id

theorem State.reportFault_blind : QueueBlind State.reportFault :=
  .ite (fun _ _ => Iff.rfl) (fun _ _ => rfl) fun _ _ => rfl

theorem State.enterFault_blind : QueueBlind State.enterFault := State.reportFault_blind.comp fun _ _ => rfl

/-- What an ANNOUNCE's completion reports to the share unit. -/
theorem State.reportAnnounce_blind (acked : Bool) (carried : Announced) : QueueBlind fun s =>
    if acked then s.reportAcked carried.demands else s.reportUnacked s.line.unacked :=
  .ite (c := fun _ => acked) (fun _ _ => Iff.rfl) (State.reportAcked_blind carried.demands)
    (QueueBlind.compWith (F := State.reportUnacked) (v := fun s => s.line.unacked) State.reportUnacked_blind
      (fun _ _ => rfl) .id)

theorem State.announceCompleted_blind (acked : Bool) (carried : Announced) :
    QueueBlind (State.announceCompleted acked carried) :=
  (State.reportAnnounce_blind acked carried).comp
    (QueueBlind.comp (g := State.onLine (LineController.countAck acked)) (fun _ _ => rfl)
      (State.promptTest_blind.comp fun _ _ => rfl))

theorem State.partCompleted_blind : QueueBlind State.partCompleted := .ite (fun _ _ => Iff.rfl) .id fun _ _ => rfl

theorem State.completeSend_blind (acked : Bool) (i : InFlight) : QueueBlind (State.completeSend acked i) := by
  intro q s
  unfold State.completeSend
  cases i.frame with
  | announce =>
    exact (State.announceCompleted_blind acked i.carried).comp
      (f := State.onLine (LineController.finishSend i)) (fun _ _ => rfl) q s
  | report part =>
    exact State.partCompleted_blind.comp
      (f := State.onLine (LineController.finishSend i)) (fun _ _ => rfl) q s
  | trip => rfl
  | clear => rfl

/-! ## Frames received -/

theorem State.frameEnded_blind (ack : Bool) : QueueBlind (State.frameEnded ack) := fun _ _ => rfl

theorem State.frameUnfollowed_blind : QueueBlind State.frameUnfollowed :=
  .ite (fun _ _ => Iff.rfl) (fun _ _ => rfl) .id

theorem State.takeConflict_blind : QueueBlind State.takeConflict :=
  .ite (fun _ _ => Iff.rfl) .id ((State.latch_blind .conflict).comp fun _ _ => rfl)

theorem State.takeGood_blind {hand : State → State} (f : Frame) (hhand : QueueBlind hand) :
    QueueBlind (State.takeGood f hand) :=
  .ite (fun _ _ => Iff.rfl) State.takeConflict_blind
    (.ite (c := fun _ => validSource f.source.toNat && lengthOfKind f.kind.toNat f.payload.length)
      (fun _ _ => Iff.rfl) hhand .id)

/-- A frame's end with its ack slot as the line controller drives it. -/
theorem State.frameAcked_blind : QueueBlind fun s => s.frameEnded s.line.acknowledges := fun _ _ => rfl

theorem State.endFrame_blind {act : State → State} (good ends : Bool) (hact : QueueBlind act) :
    QueueBlind (State.endFrame good ends act) :=
  .ite (fun _ _ => Iff.rfl)
    (.ite (c := fun _ => good) (fun _ _ => Iff.rfl)
      (.ite (fun _ _ => Iff.rfl) (hact.comp State.frameAcked_blind) State.frameAcked_blind)
      (State.frameEnded_blind false))
    State.frameUnfollowed_blind

theorem State.receive_blind {hand : State → State} (f : Frame) (hhand : QueueBlind hand) :
    QueueBlind (State.receive f hand) := State.endFrame_blind (checkGood f) true (State.takeGood_blind f hhand)

theorem State.refreshPeer_blind (a : Nat) : QueueBlind (State.refreshPeer a) := fun _ _ => rfl

theorem State.takeTrip_blind (source : Address) (causeSet : Half) : QueueBlind (State.takeTrip source causeSet) :=
  (State.addRemote_blind source.toNat (entryCausesOf (sidingSetOfHalf causeSet))).comp
    (State.refreshPeer_blind source.toNat)

theorem State.dropRemote_blind (o : Nat) : QueueBlind (State.dropRemote o) := fun _ _ => rfl

theorem State.takeClear_blind (source : Address) : QueueBlind (State.takeClear source) :=
  (State.dropRemote_blind source.toNat).comp (State.refreshPeer_blind source.toNat)

theorem State.mendList_blind (o : Nat) (outstanding : Bool) : QueueBlind (State.mendList o outstanding) :=
  .ite (c := fun _ => outstanding) (fun _ _ => Iff.rfl)
    (.ite (fun _ _ => Iff.rfl) .id (State.addRemote_blind o .unknown)) (State.dropRemote_blind o)

theorem State.takeAnnounce_blind (source : Address) (payload : AnnouncePayload) :
    QueueBlind (State.takeAnnounce source payload) :=
  (State.mendList_blind source.toNat (announceOutstanding payload)).comp fun _ _ => rfl

theorem State.answerInquiry_blind (number : Nat) : QueueBlind (State.answerInquiry number) :=
  .ite (fun _ _ => Iff.rfl) .id (.ite (fun _ _ => Iff.rfl) (fun _ _ => rfl) .id)

theorem State.takeInquiry_blind (source : Address) (target : Byte) (number : Half) :
    QueueBlind (State.takeInquiry source target number) :=
  .ite (fun _ _ => Iff.rfl) ((State.answerInquiry_blind number.toNat).comp (State.refreshPeer_blind source.toNat))
    (State.refreshPeer_blind source.toNat)

theorem State.takeCollect_blind (source : Address) (target : Byte) (number : Half) :
    QueueBlind (State.takeCollect source target number) :=
  .ite (fun _ _ => Iff.rfl) (fun _ _ => rfl) (State.refreshPeer_blind source.toNat)

theorem State.handOn_blind (f : Frame) : QueueBlind (State.handOn f) := fun q s => by
  unfold State.handOn
  split
  · exact State.takeTrip_blind f.source _ q s
  · exact State.takeClear_blind f.source q s
  · exact State.takeAnnounce_blind f.source _ q s
  · exact State.takeInquiry_blind f.source _ _ q s
  · exact State.refreshPeer_blind f.source.toNat q s
  · exact State.takeCollect_blind f.source _ _ q s
  · rfl

/-! ## The loader, the check's end and the travel timers -/

theorem State.refuseImage_blind (cause : Code) : QueueBlind (State.refuseImage cause) := fun _ _ => rfl

theorem State.release_blind (c : Settings) (signature : Nat) : QueueBlind (State.release c signature) :=
  QueueBlind.comp (g := State.onLine LineController.start) (fun _ _ => rfl)
    (QueueBlind.comp (g := State.onValve ValveDriver.start) (fun _ _ => rfl)
      (State.enterIdle_blind.comp fun _ _ => rfl))

theorem State.judge_blind (image : List Byte) : QueueBlind (State.judge image) := fun q s => by
  unfold State.judge
  cases judgeImage image with
  | some cause => rfl
  | none => exact State.release_blind (settingsOf image) (signatureOf image) q s

/-- A failed read attempt, counted. -/
theorem State.attemptFailed_blind : QueueBlind fun s =>
    if (s.onLoader fun l => { l with attempts := l.attempts + 1 }).loader.attempts < 3 then
      (s.onLoader fun l => { l with attempts := l.attempts + 1 }).onLoader fun l => { l with port := .pause }
    else (s.onLoader fun l => { l with attempts := l.attempts + 1 }).refuseImage .lm :=
  .ite (fun _ _ => Iff.rfl) (fun _ _ => rfl) fun _ _ => rfl

theorem State.passCheck_blind : QueueBlind State.passCheck := (State.enterPhase_blind .push).comp fun _ _ => rfl

theorem State.lowerThrottle_blind : QueueBlind State.lowerThrottle :=
  QueueBlind.compWith (F := State.promptOnMove) (v := State.demands) State.promptOnMove_blind (fun _ _ => rfl)
    fun _ _ => rfl

theorem State.travelExpires_blind (valve : Valve) : QueueBlind (State.travelExpires valve) := by
  intro q s
  unfold State.travelExpires
  rw [show ((s.withQueue q).valve.channel valve).state = (s.valve.channel valve).state from rfl]
  cases (s.valve.channel valve).state with
  | closing =>
    exact (State.latch_blind .valve).comp
      (f := State.onValve fun v => v.setChannel ⟨.closeOverdue, none⟩ valve) (fun _ _ => rfl) q s
  | opening =>
    exact (State.latch_blind .valve).comp
      (f := State.onValve fun v => v.setChannel ⟨.openOverdue, none⟩ valve) (fun _ _ => rfl) q s
  | closed => rfl
  | opened => rfl
  | closeOverdue => rfl
  | openOverdue => rfl

/-! ## The line's own commands -/

theorem State.startBit_blind : QueueBlind fun s =>
    match s.line.outgoing with
    | [] => s.onLine LineController.startBit
    | f :: _ => if s.line.state = .listen then s.contend f else s.onLine LineController.startBit := fun q s => by
  beta_reduce
  rw [show (s.withQueue q).line = s.line from rfl]
  cases s.line.outgoing with
  | nil => rfl
  | cons f rest =>
    exact QueueBlind.ite (c := fun s => s.line.state = .listen) (f := fun s => s.contend f) (fun _ _ => Iff.rfl)
      (fun _ _ => rfl) (fun _ _ => rfl) q s

theorem State.sendCompleted_blind (acked : Bool) : QueueBlind fun s =>
    match s.line.inFlight with
    | none => s
    | some i => if s.line.sending then s.completeSend acked i else s := fun q s => by
  beta_reduce
  rw [show (s.withQueue q).line = s.line from rfl]
  cases s.line.inFlight with
  | none => rfl
  | some i =>
    exact QueueBlind.ite (c := fun s => s.line.sending) (fun _ _ => Iff.rfl) (State.completeSend_blind acked i) .id q s

/-! ## Every command -/

/-- A command answers a next state by a queue-blind function. -/
def CommandBlind (e : State → Host.Outcome State Fault Refusal) : Prop :=
  ∃ f, QueueBlind f ∧ ∀ s, e s = .next (f s)

theorem CommandBlind.next {f : State → State} (hf : QueueBlind f) : CommandBlind fun s => .next (f s) :=
  ⟨f, hf, fun _ => rfl⟩

/-- Every command, by the function that its meaning is. -/
theorem exec_commandBlind (c : Instr) : CommandBlind (exec c) := by
  cases c with
  | por => exact .next fun _ _ => rfl
  | rstn => exact .next fun _ _ => rfl
  | resetEnd straps => exact .next (.ite (fun _ _ => Iff.rfl) (fun _ _ => rfl) .id)
  | memoryAttemptFailed byte => exact .next (.ite (fun _ _ => Iff.rfl) State.attemptFailed_blind .id)
  | memoryRetryPauseExpiry => exact .next fun _ _ => rfl
  | imageReadComplete image => exact .next (.ite (fun _ _ => Iff.rfl) (State.judge_blind image.toList) .id)
  | sampleEvent counts levels order =>
    exact .next (.ite (fun _ _ => Iff.rfl)
      (QueueBlind.compWith (F := fun e s => runTurns (turnsOf order) s e) (v := State.eventOf levels)
        (fun e => runTurns_blind (turnsOf order) e) (fun _ _ => rfl) (State.sampleInputs_blind counts levels)) .id)
  | pulseEdge meter => exact .next (.ite (fun _ _ => Iff.rfl) (fun _ _ => rfl) .id)
  | taginIdleWaitDone => exact .next fun _ _ => rfl
  | characterArrival code framingGood => exact .next fun _ _ => rfl
  | drainTimerExpiry => exact .next (.ite (fun _ _ => Iff.rfl) (fun _ _ => rfl) .id)
  | recoveryTimerExpiry =>
    exact .next (.ite (fun _ _ => Iff.rfl) (State.enterClose_blind.comp (State.note_blind .empty 2)) .id)
  | bleedTimerExpiry => exact .next (.ite (fun _ _ => Iff.rfl) (State.endReleasing_blind.comp fun _ _ => rfl) .id)
  | temporaryCodeTimerExpiry => exact .next (.ite (fun _ _ => Iff.rfl) (fun _ _ => rfl) .id)
  | checkTimerExpiry =>
    exact .next (.ite (fun _ _ => Iff.rfl)
      (.ite (fun _ _ => Iff.rfl) State.passCheck_blind (State.failCheck_blind .fl)) .id)
  | confirmTimerExpiry => exact .next (.ite (fun _ _ => Iff.rfl) State.confirmLiquidOut_blind .id)
  | clearTimerExpiry => exact .next (.ite (fun _ _ => Iff.rfl) State.lowerThrottle_blind .id)
  | travelTimerExpiry valve => exact .next (.ite (fun _ _ => Iff.rfl) (State.travelExpires_blind valve) .id)
  | starvationTimerExpiry =>
    exact .next (.ite (fun _ _ => Iff.rfl)
      (.ite (fun _ _ => Iff.rfl) ((State.enterHold_blind (some .push) .starved).comp fun _ _ => rfl) fun _ _ => rfl)
      .id)
  | announceTimerExpiry => exact .next (.ite (fun _ _ => Iff.rfl) (fun _ _ => rfl) .id)
  | spacingTimeReached => exact .next (.ite (fun _ _ => Iff.rfl) (fun _ _ => rfl) .id)
  | uptimeSecond => exact .next (.ite (fun _ _ => Iff.rfl) .id fun _ _ => rfl)
  | staleThresholdReached address => exact .next fun _ _ => rfl
  | lapseThresholdReached address => exact .next fun _ _ => rfl
  | forgetTimeReached address => exact .next fun _ _ => rfl
  | contentionStart => exact .next (.ite (fun _ _ => Iff.rfl) State.startBit_blind .id)
  | arbitrationLoss => exact .next (.ite (fun _ _ => Iff.rfl) (fun _ _ => rfl) .id)
  | sendError place =>
    exact .next (.ite (fun _ _ => Iff.rfl)
      (.ite (fun _ _ => Iff.rfl) (State.enterFault_blind.comp fun _ _ => rfl) fun _ _ => rfl) .id)
  | stuckLine =>
    exact .next (.ite (fun _ _ => Iff.rfl) .id
      (.ite (fun _ _ => Iff.rfl) (fun _ _ => rfl) (State.enterFault_blind.comp fun _ _ => rfl)))
  | sendCompleted acked => exact .next (State.sendCompleted_blind acked)
  | faultExit => exact .next (.ite (fun _ _ => Iff.rfl) (fun _ _ => rfl) .id)
  | frameBadCheck => exact .next (State.endFrame_blind false true .id)
  | frameDiscarded kind source payload => exact .next (State.receive_blind _ (State.handOn_blind _))
  | conflict => exact .next (State.endFrame_blind true true State.takeConflict_blind)
  | tripFrame source causeSet => exact .next (State.receive_blind _ (State.takeTrip_blind source causeSet.content))
  | clearFrame source => exact .next (State.receive_blind _ (State.takeClear_blind source.content))
  | announceFrame source payload =>
    exact .next (State.receive_blind _ (State.takeAnnounce_blind source payload.content))
  | inquiry source target number =>
    exact .next (State.receive_blind _ (State.takeInquiry_blind source target number.content))
  | collect source target number =>
    exact .next (State.receive_blind _ (State.takeCollect_blind source target number.content))
  | reportFrame source payload => exact .next (State.receive_blind _ (State.refreshPeer_blind source.toNat))
  | lineIdle => exact .next (.ite (fun _ _ => Iff.rfl) .id fun _ _ => rfl)
  | frameEndFieldError => exact .next (State.endFrame_blind true false .id)

/-- Settles O2: every command is a queue-blind function of the state (`exec_commandBlind`). -/
theorem commandsLeaveTheQueue : Obligations.CommandsLeaveTheQueue := fun c s => by
  obtain ⟨f, hblind, hexec⟩ := exec_commandBlind c
  exact ⟨f s, hexec s, hblind.pending s, fun queue => (hexec _).trans (congrArg _ (hblind queue s))⟩

end Sys2Proof.Machine
end
